-- ==== Sys2Proof/Word.lean ====
section
/-! DEFINITION. The widths of the block's values (00_scope R7, R8; 30_encoding R56, R58). Bit `i` of a
value has weight `2^i`, which is `BitVec`'s own numbering. -/

namespace Sys2Proof

/-- A 64-bit value: a half of the state or an output of `NEXT` (`OUT_BITS`, R7; R9). -/
abbrev Word := BitVec 64

/-- A 128-bit value: the state, an operand or the data of a response (`STATE_BITS`, R7). -/
abbrev Block := BitVec 128

/-- The command word `CW` as 130 bits, `op` above `data` (R56). -/
abbrev CmdWord := BitVec 130

/-- The response word `RW` as 130 bits, `status` above `data` (R58). -/
abbrev RspWord := BitVec 130

end Sys2Proof
end

