-- ==== Sys2Proof/Config.lean ====
section
/-! DEFINITION. The parameters of the block (00_scope R7), which are constants and no state
(10_state R28). The spec takes every value here but the first three sizes as its own decision
(92_eei_decisions D1 to D4, D11, D12); log 4. -/

namespace Sys2Proof

/-- `ZERO_SEED_POLICY` (R7, D3): what `SEED` does with the operand 0 (42_commands R127). -/
inductive ZeroSeedPolicy where
  /-- The zero seed is refused with the status `INVALID_SEED`. -/
  | reject
  /-- The zero seed is replaced by `FALLBACK_STATE`. -/
  | remap
  deriving DecidableEq, Repr

/-- The parameters that differ between two blocks of this design: the policy, the fallback state, and the
two combinational functions (93_implementation_defined U1, U2, U12, U13). Rules that the spec states for
every legal choice are stated over a `Params`; this hardware's choice is `Machine.hardware`. -/
structure Params where
  /-- `ZERO_SEED_POLICY`. -/
  zeroSeedPolicy : ZeroSeedPolicy
  /-- `FALLBACK_STATE`, used under `remap` only. -/
  fallbackState : Block
  /-- The transition `f`, multiplication by the matrix `A` (40_transition R81). -/
  f : Block → Block
  /-- The output function `G` (41_output R110). -/
  g : Block → Word

/-- `PERIOD = 2**128 - 1` (R7). -/
def Config.period : Nat := 2 ^ 128 - 1

/-- `ZERO_SEED_POLICY` of this hardware (R7, D3). -/
def Config.zeroSeedPolicy : ZeroSeedPolicy := .reject

/-- `FALLBACK_STATE` of this hardware (R7, D4). -/
def Config.fallbackState : Block := 0x00000000000000000000000000000001

/-- `ROT_A` of the closed form of `A_REF` (R7, D1). -/
def Config.rotA : Nat := 49

/-- `SHL_B` of the closed form of `A_REF` (R7, D1). -/
def Config.shlB : Nat := 21

/-- `ROT_C` of the closed form of `A_REF` (R7, D1). -/
def Config.rotC : Nat := 28

/-- `ROT_R` of `G_REF` (R7, D2). -/
def Config.rotR : Nat := 17

/-- `HAS_STATE_READ` (R7, D11): the command `STATE` exists. The spec defines no variant without it
(log 15), so this value selects nothing. -/
def Config.hasStateRead : Bool := true

/-- `LATENCY` (R7, D12), the open parameter: a free value that no definition of the model reads (log 9). -/
opaque Config.latency : Nat

end Sys2Proof
end

