-- ==== Sys2Proof/Machine/Operands.lean ====
section
/-! DEFINITION. The operators on values: the halves of a 128-bit value, rotations, parity, and the
assembly of operands and response data (00_scope R8 to R11; 30_encoding R60, R61). -/

namespace Sys2Proof.Machine

/-- `lo = x[63:0]` (R9). -/
def loWord (x : Block) : Word := x.extractLsb' 0 64

/-- `hi = x[127:64]` (R9). -/
def hiWord (x : Block) : Word := x.extractLsb' 64 64

/-- The concatenation of two halves, the high one first (R8, R9). -/
def joinWords (hi lo : Word) : Block := hi ++ lo

/-- `rotl_w(a, k)` for `0 <= k < w` (R10). -/
def rotl {w : Nat} (a : BitVec w) (k : Nat) : BitVec w :=
  if k = 0 then a else (a <<< k) ||| (a >>> (w - k))

/-- `rotr_w(a, k) = rotl_w(a, (w - k) mod w)` (R10). -/
def rotr {w : Nat} (a : BitVec w) (k : Nat) : BitVec w := rotl a ((w - k) % w)

/-- `parity(v)`, the XOR of all bits of `v` (R10). -/
def parity {w : Nat} (v : BitVec w) : Bool :=
  (List.range w).foldl (fun b i => b ^^ v.getLsbD i) false

/-- `zext_128` of a 64-bit output, as `rsp.data` of `NEXT` carries it (R61; 20_memory R44). -/
def zextOutput (v : Word) : Block := v.setWidth 128

end Sys2Proof.Machine
end

