-- ==== Sys2Proof/Machine/Combiner.lean ====
section
/-! DEFINITION. The output combiner `G_REF` (41_output R111) and its preimage formula (R115). -/

namespace Sys2Proof.Machine

/-- `g`, the output function of this hardware: two wrapping 64-bit additions around a rotation (R111). -/
def combine (x : Block) : Word :=
  let lo := loWord x
  let hi := hiWord x
  let sum := lo + hi
  let rot := rotl sum Config.rotR
  rot + lo

/-- The one high half that makes `g` of it over `lo` the target `v` (R115). -/
def combinePreimageHi (v lo : Word) : Word := rotr (v - lo) Config.rotR - lo

end Sys2Proof.Machine
end

