-- ==== Sys2Proof/Machine/Transition.lean ====
section
/-! DEFINITION. The state-transition engine: the closed form of `A_REF` and its inverse
(40_transition R83, R88). That it is multiplication by the matrix of R85 is a statement about this
definition and Machine/Matrix (R86). -/

namespace Sys2Proof.Machine

/-- `f`, the transition of this hardware (R83). -/
def transition (x : Block) : Block :=
  let lo := loWord x
  let hi := hiWord x
  let t := lo ^^^ hi
  let lo' := rotl lo Config.rotA ^^^ t ^^^ (t <<< Config.shlB)
  let hi' := rotl t Config.rotC
  joinWords hi' lo'

/-- `f_inv`, the inverse of `f` (R88). No command applies it. -/
def transitionInv (y : Block) : Block :=
  let lo' := loWord y
  let hi' := hiWord y
  let t := rotr hi' Config.rotC
  let lo := rotr (lo' ^^^ t ^^^ (t <<< Config.shlB)) Config.rotA
  let hi := t ^^^ lo
  joinWords hi lo

end Sys2Proof.Machine
end

