-- ==== Sys2Proof/Machine/Hardware.lean ====
section
/-! DEFINITION. The parameter values of this hardware (00_scope R7). -/

namespace Sys2Proof.Machine

/-- This hardware: policy `REJECT`, fallback 1, `A = A_REF`, `G = G_REF` (R7; log 4). -/
def hardware : Params where
  zeroSeedPolicy := Config.zeroSeedPolicy
  fallbackState := Config.fallbackState
  f := transition
  g := combine

/-- The same block built with the other legal policy, `REMAP` (R7; 95_test_vectors V35). -/
def hardwareRemap : Params := { hardware with zeroSeedPolicy := .remap }

end Sys2Proof.Machine
end

