-- ==== Sys2Proof/Machine/State.lean ====
section
/-! DEFINITION. The block's state: the generator register `S`, the guard latch `VALID`, the response
register `RSP` (10_state R20, R24, R27), and, as the model's own field, the clock edges the host will
present (R25; log 1). There is no memory and no program counter (20_memory R40, 10_state R25). -/

namespace Sys2Proof.Machine

/-- The status of a response (30_encoding R59). The reserved code `0b11` is never produced and has no
constructor (log 14). -/
inductive Status where
  /-- The command did what it names. -/
  | ok
  /-- `SEED` was given 0 under the policy `REJECT`; nothing was written. -/
  | invalidSeed
  /-- `NEXT` or `STATE` while `VALID = 0`; nothing was written. -/
  | notSeeded
  deriving DecidableEq, Repr

/-- The response of one command (30_encoding R58). -/
structure Response where
  status : Status
  data : Block
  deriving DecidableEq, Repr

/-- The response register `RSP`, 131 bits: valid, status, data (10_state R27). -/
structure RspReg where
  valid : Bool
  status : Status
  data : Block
  deriving DecidableEq, Repr

/-- The input ports at one rising edge of `clk` (30_encoding R55). -/
structure Edge where
  rst : Bool
  cmdValid : Bool
  cmdOp : BitVec 2
  cmdData : Block
  deriving DecidableEq, Repr

/-- The state of the block and, in `host`, the inputs the host drives at the coming edges. -/
structure State where
  /-- The 128-bit state register (R20). -/
  S : Block
  /-- The zero-state guard latch (R24). -/
  VALID : Bool
  /-- The response register (R27). -/
  RSP : RspReg
  /-- The coming edges' inputs, next first: the host's, not the block's (R25, R178; log 1). -/
  host : List Edge
  deriving DecidableEq, Repr

/-- `RSP` after reset (R30). -/
def RspReg.reset : RspReg := ⟨false, .ok, 0⟩

/-- The block right after reset (R30), with nothing placed on the command port (log 1). -/
def State.reset : State := ⟨0, false, RspReg.reset, []⟩

/-- The faults of a step: none. "There is no fault, trap, stall or hang" (42_commands R125), so the type has no
constructor and no step can answer with one; leaving it empty is safe (log 8). -/
inductive Fault where
  deriving DecidableEq, Repr

/-- The refusals of a step. -/
inductive Refusal where
  /-- An instruction without a meaning. Every command has one, so nothing raises it (log 8); it would be
  safe, since it only stops a run. -/
  | notModelled (mnemonic : String)
  deriving DecidableEq, Repr

end Sys2Proof.Machine
end

