-- ==== Sys2Proof/Machine/Ops.lean ====
section
/-! DEFINITION. The named operations on the state. Every write of `S`, `VALID` and `RSP` goes through one
of them; `raise` is the one way a command reports an error (00_scope R12; 60_exceptions R146), which takes
the place of an exception entry on this block (60_exceptions R151: there is no trap, and nothing to return
from). -/

namespace Sys2Proof.Machine

/-- The zero detector on the seed operand (42_commands R130). -/
def zeroDetect (v : Block) : Bool := v == 0

/-- `S <- v ; VALID <- 1`: a seed is stored (42_commands R127). -/
def State.store (v : Block) (s : State) : State := { s with S := v, VALID := true }

/-- `S <- n`: the state is advanced (42_commands R128). -/
def State.advanceTo (n : Block) (s : State) : State := { s with S := n }

/-- `rsp <- (status, data)`: the response register is loaded (30_encoding R58, R66). -/
def State.respond (st : Status) (d : Block) (s : State) : State := { s with RSP := ⟨true, st, d⟩ }

/-- `raise st`: the response `(st, 0)`, and no state element is written (00_scope R12). -/
def State.raise (st : Status) (s : State) : State := s.respond st 0

/-- Reset of the block's elements (10_state R30, 70_reset R170); what the host will present stays. -/
def State.clear (s : State) : State := { s with S := 0, VALID := false, RSP := RspReg.reset }

/-- An edge without a command: only `RSP.valid` changes, to 0 (30_encoding R66). -/
def State.dropResponse (s : State) : State := { s with RSP := { s.RSP with valid := false } }

/-- The edge has passed: the host's next inputs come up. -/
def State.consume (s : State) : State := { s with host := s.host.tail }

/-- The response of the last command as the host may take it: present for the period in which
`rsp_valid = 1` only (70_reset R176; 93_implementation_defined U10). -/
def State.takenResponse (s : State) : Option Response :=
  if s.RSP.valid then some ⟨s.RSP.status, s.RSP.data⟩ else none

/-- The status and data that stand in the response register. -/
def State.response (s : State) : Response := ⟨s.RSP.status, s.RSP.data⟩

end Sys2Proof.Machine
end

