-- ==== Sys2Proof/Syntax.lean ====
section
/-! DEFINITION. The four commands of the block (30_encoding R57), its whole instruction set. -/

namespace Sys2Proof

/-- A command with its 128 operand bits `CW[127:0]`. `NOP`, `NEXT` and `STATE` ignore the operand
(30_encoding R60); it is kept in the syntax so that a command and its word determine each other, and so
that the ignoring is a fact about the meanings and not about the decoder (log 16). -/
inductive Instr where
  /-- `NOP` (42_commands R126). -/
  | nop (ignored : Block)
  /-- `SEED v` (42_commands R127). -/
  | seed (v : Block)
  /-- `NEXT` (42_commands R128). -/
  | next (ignored : Block)
  /-- `STATE` (42_commands R129). -/
  | state (ignored : Block)
  deriving DecidableEq, Repr

/-- The operand bits `CW[127:0]` of a command (R56). -/
def Instr.operand : Instr → Block
  | .nop d => d
  | .seed v => v
  | .next d => d
  | .state d => d

end Sys2Proof
end

