-- ==== Sys2Proof/Machine/Commands.lean ====
section
/-! DEFINITION. The four commands (42_commands R125 to R129). Each rule is written once over the
parameters of the block; the meanings `exec…` are the rules at this hardware's parameters. -/

namespace Sys2Proof.Machine

/-- `NOP` (R126). -/
def nopRule (s : State) : State := s.respond .ok 0

/-- `SEED v` (R127). -/
def seedRule (p : Params) (v : Block) (s : State) : State :=
  if zeroDetect v then
    match p.zeroSeedPolicy with
    | .reject => s.raise .invalidSeed
    | .remap => (s.store p.fallbackState).respond .ok 0
  else (s.store v).respond .ok 0

/-- `NEXT` (R128): `f` once, then `g` of the new state. -/
def nextRule (p : Params) (s : State) : State :=
  if s.VALID then
    let n := p.f s.S
    (s.advanceTo n).respond .ok (zextOutput (p.g n))
  else s.raise .notSeeded

/-- `STATE` (R129). -/
def stateRule (s : State) : State :=
  if s.VALID then s.respond .ok s.S else s.raise .notSeeded

/-- The rule of a command (R125). -/
def commandRule (p : Params) (i : Instr) (s : State) : State :=
  match i with
  | .nop _ => nopRule s
  | .seed v => seedRule p v s
  | .next _ => nextRule p s
  | .state _ => stateRule s

/-- A `SEED` that stores a state: its operand is nonzero, or the policy is `REMAP` (R127). -/
def storesSeed (p : Params) (i : Instr) : Bool :=
  match i with
  | .nop _ => false
  | .seed v => !zeroDetect v || decide (p.zeroSeedPolicy = .remap)
  | .next _ => false
  | .state _ => false

/-- The meaning of `NOP` (R126). -/
def execNop (_ignored : Block) (s : State) : Host.Outcome State Fault Refusal := .next (nopRule s)

/-- The meaning of `SEED` (R127). -/
def execSeed (v : Block) (s : State) : Host.Outcome State Fault Refusal := .next (seedRule hardware v s)

/-- The meaning of `NEXT` (R128). -/
def execNext (_ignored : Block) (s : State) : Host.Outcome State Fault Refusal :=
  .next (nextRule hardware s)

/-- The meaning of `STATE` (R129). -/
def execState (_ignored : Block) (s : State) : Host.Outcome State Fault Refusal := .next (stateRule s)

end Sys2Proof.Machine
end

