-- ==== Sys2Proof/Machine/Dispatch.lean ====
section
/-! DEFINITION. One arm per command of the opcode map (30_encoding R57). -/

namespace Sys2Proof.Machine

def exec (i : Instr) (s : State) : Host.Outcome State Fault Refusal :=
  match i with
  | .nop ignored => Sys2Proof.Machine.execNop ignored s
  | .seed v => Sys2Proof.Machine.execSeed v s
  | .next ignored => Sys2Proof.Machine.execNext ignored s
  | .state ignored => Sys2Proof.Machine.execState ignored s

end Sys2Proof.Machine
end

