-- ==== Sys2Proof/WellFormed.lean ====
section
/-! DEFINITION. What the spec's own limits on written-down values allow. No command is ill formed: every
operand of every opcode is legal (30_encoding R62). The limits that exist are on a command word given as a
number (R56), on the immediate of an assembler line (R64) and on `FALLBACK_STATE` (00_scope R7). -/

namespace Sys2Proof

/-- A number that is a command word: it has at most 130 bits (R56). -/
def wellFormedWord (n : Nat) : Bool := decide (n < 2 ^ 130)

/-- A number that is an `imm128` of an assembler line: `0 <= imm < 2**128` (R64). -/
def wellFormedImm (n : Nat) : Bool := decide (n < 2 ^ 128)

/-- Legal parameters: the fallback state must be nonzero (R7). The properties of `f` and `g`, which are
no executable check, are `Params.Admissible` in Safety. -/
def Params.wellFormed (p : Params) : Bool := p.fallbackState != 0

/-- Every command is well formed (R62). -/
def Instr.wellFormed : Instr → Bool
  | .nop _ => true
  | .seed _ => true
  | .next _ => true
  | .state _ => true

/-- The form an assembler emits: zeros in an ignored operand (R60). Other words are legal all the same. -/
def Instr.assemblerForm : Instr → Bool
  | .nop d => d == 0
  | .seed _ => true
  | .next d => d == 0
  | .state d => d == 0

end Sys2Proof
end

