-- ==== Sys2Proof/Decode.lean ====
section
/-! DEFINITION. The command word (30_encoding R56, R57): the decoder, which is total on 130-bit words
(R62), and the encoder. The block has no byte order (20_memory R43), so words are decoded whole. -/

namespace Sys2Proof

/-- `CW[129:128]`, the field `op` (R56). -/
def cwOp (cw : CmdWord) : BitVec 2 := cw.extractLsb' 128 2

/-- `CW[127:0]`, the field `data` (R56). -/
def cwData (cw : CmdWord) : Block := cw.extractLsb' 0 128

/-- `CW = op above data`, as the ports carry it (R55, R56). -/
def mkCmdWord (op : BitVec 2) (data : Block) : CmdWord := op ++ data

/-- The command that an opcode selects (R57); the two bits of `op` are read from the high one down. -/
def decodeFields (op : BitVec 2) (data : Block) : Instr :=
  match op.getLsbD 1, op.getLsbD 0 with
  | false, false => .nop data
  | false, true => .seed data
  | true, false => .next data
  | true, true => .state data

/-- The decoder: every 130-bit word is one of the four commands (R57, R62). -/
def decode (cw : CmdWord) : Instr := decodeFields (cwOp cw) (cwData cw)

/-- Why a number is no command word. -/
inductive DecodeError where
  /-- The number needs more than 130 bits; the command port has 130 wires (R55, R56). -/
  | widerThanCommandWord
  deriving DecidableEq, Repr

/-- The decoder on a number: a number of more than 130 bits is refused by name, any other is a command. -/
def decodeNat (n : Nat) : Except DecodeError Instr :=
  if wellFormedWord n then .ok (decode (BitVec.ofNat 130 n)) else .error .widerThanCommandWord

/-- The opcode of a command (R57). -/
def Instr.opcode : Instr → BitVec 2
  | .nop _ => 0b00
  | .seed _ => 0b01
  | .next _ => 0b10
  | .state _ => 0b11

/-- The encoder: opcode above operand (R56, R57). -/
def encode (i : Instr) : CmdWord := mkCmdWord i.opcode i.operand

/-- The mask of every row of the opcode map (R57). -/
def opcodeMask : CmdWord := (3 : CmdWord) <<< 128

/-- The low `nbits` bits of a number as a command word, the bits above them zero. -/
def tableWord (nbits w : Nat) : Nat := w % 2 ^ nbits

/-- The command that the decoder reads from a word of the opcode table, none where it refuses (a number
of more than 130 bits; log 7). -/
def decodeTableWord (nbits w : Nat) : Option Instr := (decodeNat (tableWord nbits w)).toOption

end Sys2Proof
end

