-- ==== Sys2Proof/Machine/Port.lean ====
section
/-! DEFINITION. The command port (30_encoding R55, R66): which inputs the block sees at the coming edge,
and how a command is placed there. It takes the place of instruction fetch, which the block has not
(20_memory R51). -/

namespace Sys2Proof.Machine

/-- An edge at which the host presents nothing: `rst = 0`, `cmd_valid = 0`. -/
def Edge.idle : Edge := ⟨false, false, 0, 0⟩

/-- An edge with `rst = 1`; the command ports are ignored (R66). -/
def Edge.reset : Edge := ⟨true, false, 0, 0⟩

/-- An edge at which the command word `cw` is presented. -/
def Edge.command (cw : CmdWord) : Edge := ⟨false, true, cwOp cw, cwData cw⟩

/-- The command word on the ports (R55, R56). -/
def Edge.word (e : Edge) : CmdWord := mkCmdWord e.cmdOp e.cmdData

/-- The inputs at the coming edge; a host that has nothing listed presents nothing (log 2). -/
def State.presented (s : State) : Edge := s.host.headD Edge.idle

/-- The state in which the coming edge presents the command word `cw`, in place of what the host had
listed for that edge. -/
def State.placeWord (s : State) (cw : CmdWord) : State :=
  { s with host := Edge.command cw :: s.host.tail }

/-- The edges that present a list of commands, one at each edge. -/
def commandEdges (is : List Instr) : List Edge := is.map fun i => Edge.command (encode i)

end Sys2Proof.Machine
end

