-- ==== Sys2Proof/Machine/Step.lean ====
section
/-! DEFINITION. One step of the machine: one rising edge of `clk` (30_encoding R66; log 3). -/

namespace Sys2Proof.Machine

/-- Reset wins; else a presented command is decoded and run; else only `RSP.valid` drops (R66). -/
def step (s : State) : Host.Outcome State Fault Refusal :=
  if s.presented.rst then .next s.consume.clear
  else if s.presented.cmdValid then exec (decode s.presented.word) s.consume
  else .next s.consume.dropResponse

/-- `s` with the command of an opcode-table word presented at the coming edge (log 1, log 7). -/
def State.withFetchWord (s : State) (nbits w : Nat) : State :=
  s.placeWord (BitVec.ofNat 130 (tableWord nbits w))

end Sys2Proof.Machine
end

