-- ==== Sys2Proof/Machine/Analog.lean ====
section
/-! DEFINITION. The family of R83 at any word width and constants (40_transition R98, R99): the 16-bit analog
of the small-model test, the triples not chosen and the negative controls. No part of the block. -/

namespace Sys2Proof.Machine

/-- The low word of a two-word value. -/
def loHalf {w : Nat} (x : BitVec (w + w)) : BitVec w := x.extractLsb' 0 w

/-- The high word of a two-word value. -/
def hiHalf {w : Nat} (x : BitVec (w + w)) : BitVec w := x.extractLsb' w w

/-- The closed form of R83 with word width `w` and constants `a`, `b`, `c` (R99). -/
def familyStep (w a b c : Nat) (x : BitVec (w + w)) : BitVec (w + w) :=
  let lo := loHalf x
  let t := lo ^^^ hiHalf x
  rotl t c ++ (rotl lo a ^^^ t ^^^ (t <<< b))

/-- Its inverse, after R88. -/
def familyInv (w a b c : Nat) (y : BitVec (w + w)) : BitVec (w + w) :=
  let t := rotr (hiHalf y) c
  let lo := rotr (loHalf y ^^^ t ^^^ (t <<< b)) a
  (t ^^^ lo) ++ lo

/-- The 16-bit analog: word width 8, constants 2, 5, 5 (R99, D19). -/
def analog16 (x : BitVec 16) : BitVec 16 := familyStep 8 2 5 5 x

/-- The inverse of the 16-bit analog (95_test_vectors V50). -/
def analog16Inv (y : BitVec 16) : BitVec 16 := familyInv 8 2 5 5 y

end Sys2Proof.Machine
end

