-- ==== Sys2Proof/Machine/Asm.lean ====
section
/-! DEFINITION. The textual form of a command list (30_encoding R64): one line to one clock edge. What the
spec leaves open of the text (blanks, empty lines) is log 12. -/

namespace Sys2Proof.Machine

/-- A line of a listing. `RESET` is no command and has no word (R64). -/
inductive AsmLine where
  | nop
  | seed (imm : Nat)
  | next
  | state
  | reset
  deriving DecidableEq, Repr

/-- Why a text line is none of the five. -/
inductive AsmError where
  /-- The first word is no command's name, or words follow where none may. -/
  | notALine
  /-- The immediate is no decimal or hexadecimal number. -/
  | notANumber
  /-- The immediate is `2**128` or more. -/
  | immediateTooLarge
  deriving DecidableEq, Repr

/-- The inputs of the edge that a line stands for; an assembler emits zeros in ignored operands (R60). -/
def AsmLine.assemble : AsmLine → Except AsmError Edge
  | .nop => .ok (Edge.command (encode (.nop 0)))
  | .seed imm =>
    if wellFormedImm imm then .ok (Edge.command (encode (.seed (BitVec.ofNat 128 imm))))
    else .error .immediateTooLarge
  | .next => .ok (Edge.command (encode (.next 0)))
  | .state => .ok (Edge.command (encode (.state 0)))
  | .reset => .ok Edge.reset

/-- The value of a digit in a base, if it is one. -/
def asmDigit (base : Nat) (c : Char) : Option Nat :=
  let n := c.toNat
  let d := if 48 ≤ n && n ≤ 57 then n - 48
    else if 97 ≤ n && n ≤ 102 then n - 87
    else if 65 ≤ n && n ≤ 70 then n - 55
    else base
  if d < base then some d else none

/-- The value of a run of digits that continues the value `acc`. -/
def asmDigits (base : Nat) : List Char → Nat → Option Nat
  | [], acc => some acc
  | c :: cs, acc =>
    match asmDigit base c with
    | none => none
    | some d => asmDigits base cs (acc * base + d)

/-- An immediate: `0x` and hexadecimal digits, or decimal digits (R64). -/
def asmNumber : List Char → Option Nat
  | [] => none
  | '0' :: 'x' :: c :: cs => asmDigits 16 (c :: cs) 0
  | c :: cs => asmDigits 10 (c :: cs) 0

/-- The words of a line, split at blanks and tabs; `w` is the word being read, in reverse. -/
def asmWords : List Char → List Char → List (List Char)
  | [], w => if w.isEmpty then [] else [w.reverse]
  | c :: cs, w =>
    if c = ' ' || c = '\t' then
      if w.isEmpty then asmWords cs [] else w.reverse :: asmWords cs []
    else asmWords cs (c :: w)

/-- A text line, its comment taken off (R64): nothing if it holds no word, else one of the five lines. -/
def parseAsmLine (text : List Char) : Except AsmError (Option AsmLine) :=
  match asmWords (text.takeWhile fun c => c != ';') [] with
  | [] => .ok none
  | [['N', 'O', 'P']] => .ok (some .nop)
  | [['S', 'E', 'E', 'D'], digits] =>
    match asmNumber digits with
    | none => .error .notANumber
    | some imm => if wellFormedImm imm then .ok (some (.seed imm)) else .error .immediateTooLarge
  | [['N', 'E', 'X', 'T']] => .ok (some .next)
  | [['S', 'T', 'A', 'T', 'E']] => .ok (some .state)
  | [['R', 'E', 'S', 'E', 'T']] => .ok (some .reset)
  | _ => .error .notALine

/-- A listing as the edges the host presents: the lines in order, empty lines left out. -/
def assembleText : List (List Char) → Except AsmError (List Edge)
  | [] => .ok []
  | text :: rest =>
    match parseAsmLine text with
    | .error e => .error e
    | .ok none => assembleText rest
    | .ok (some line) =>
      match line.assemble, assembleText rest with
      | .ok e, .ok es => .ok (e :: es)
      | .error e, _ => .error e
      | _, .error e => .error e

end Sys2Proof.Machine
end

