-- ==== Sys2Proof/Machine/Flags.lean ====
section
/-! DEFINITION. The status codes and the words the output ports carry (30_encoding R55, R58, R59;
10_state R27). The only flag of the block is `VALID` (10_state R26), which drives the port `seeded`. -/

namespace Sys2Proof.Machine

/-- The code of a status (R59). -/
def statusCode : Status → BitVec 2
  | .ok => 0b00
  | .invalidSeed => 0b01
  | .notSeeded => 0b10

/-- The status of a code; the reserved code `0b11` is none (R59). -/
def statusOfCode (c : BitVec 2) : Option Status :=
  match c.getLsbD 1, c.getLsbD 0 with
  | false, false => some .ok
  | false, true => some .invalidSeed
  | true, false => some .notSeeded
  | true, true => none

/-- The response word, status above data (R58). -/
def packResponse (r : Response) : RspWord := statusCode r.status ++ r.data

/-- A response word read back; a word with the reserved status is none (R59, R62). -/
def unpackResponse (w : RspWord) : Option Response :=
  (statusOfCode (w.extractLsb' 128 2)).map fun st => ⟨st, w.extractLsb' 0 128⟩

/-- The bits of `RSP`: valid above status above data, 131 in all (10_state R27; 30_encoding R66). -/
def packRsp (r : RspReg) : BitVec 131 := BitVec.ofBool r.valid ++ packResponse ⟨r.status, r.data⟩

/-- The output ports (R55). -/
structure OutPorts where
  rspValid : Bool
  rspStatus : BitVec 2
  rspData : Block
  seeded : Bool
  deriving DecidableEq, Repr

/-- What the output ports show in a state (R55). -/
def outPorts (s : State) : OutPorts := ⟨s.RSP.valid, statusCode s.RSP.status, s.RSP.data, s.VALID⟩

end Sys2Proof.Machine
end

