-- ==== Sys2Proof/Machine/Polynomial.lean ====
section
/-! DEFINITION. Polynomials over GF(2) modulo the characteristic polynomial of `A_REF` (40_transition R91;
95_test_vectors V44). Bit `k` of a value is the coefficient of `x**k`. -/

namespace Sys2Proof.Machine

/-- `P_REF`, degree 128 (R91). -/
def pRef : BitVec 129 := 0x10031bcf2f855d6e58dae70779760b081

/-- `P_REF` without its leading term. -/
def pRefLow : Block := pRef.extractLsb' 0 128

/-- A residue times `x` modulo `P_REF`. -/
def polyMulX (a : Block) : Block := if a.getLsbD 127 then (a <<< 1) ^^^ pRefLow else a <<< 1

/-- Horner's rule over the low `k` bits of `b`, from bit `k - 1` down. -/
def polyMulLoop (a b : Block) : Nat → Block → Block
  | 0, acc => acc
  | k + 1, acc => polyMulLoop a b k (polyMulX acc ^^^ (if b.getLsbD k then a else 0))

/-- The product of two residues modulo `P_REF`. -/
def polyMul (a b : Block) : Block := polyMulLoop a b 128 0

/-- Square and multiply over `fuel` bits of `e`, least significant first. -/
def polyPowLoop : Nat → Nat → Block → Block → Block
  | 0, _, _, r => r
  | fuel + 1, e, b, r => polyPowLoop fuel (e / 2) (polyMul b b) (if e % 2 = 1 then polyMul r b else r)

/-- The power of a residue modulo `P_REF`. -/
def polyPow (a : Block) (e : Nat) : Block := polyPowLoop e.size e a 1

/-- The residue `x`. -/
def polyX : Block := 2

/-- `P(f)` applied to `v` for the polynomial with coefficients `P[k], P[k+1], …, P[k+fuel-1]` over
`v, f v, f f v, …`. -/
def polyApplyLoop {w : Nat} (P : BitVec w) (f : Block → Block) : Nat → Nat → Block → Block
  | 0, _, _ => 0
  | fuel + 1, k, v => (if P.getLsbD k then v else 0) ^^^ polyApplyLoop P f fuel (k + 1) (f v)

/-- `P(f)(v)`, the XOR of `f^k(v)` over the one bits `k` of `P` (V44). -/
def polyApply {w : Nat} (P : BitVec w) (f : Block → Block) (v : Block) : Block := polyApplyLoop P f w 0 v

end Sys2Proof.Machine
end

