-- ==== Sys2Proof/Machine/Run.lean ====
section
/-! DEFINITION. The block at the transaction level: a list of commands and its responses
(20_memory R48; 42_commands R131; 70_reset R178). -/

namespace Sys2Proof.Machine

/-- The responses of a list of commands and the state after it, the fold of the command rules from left
to right (R48). -/
def runCommands (p : Params) : List Instr → State → List Response × State
  | [], s => ([], s)
  | i :: is, s =>
    let t := commandRule p i s
    let rest := runCommands p is t
    (t.response :: rest.1, rest.2)

/-- A run of the model: the reset state, then a finite list of commands (R178). -/
def runFromReset (p : Params) (is : List Instr) : List Response × State := runCommands p is State.reset

/-- `f` applied `k` times: the state `s_k` of R131 from `s_0 = x`. -/
def iterateF (p : Params) : Nat → Block → Block
  | 0, x => x
  | k + 1, x => iterateF p k (p.f x)

/-- How many `NEXT` commands a list holds. -/
def countNext : List Instr → Nat
  | [] => 0
  | .next _ :: is => countNext is + 1
  | .nop _ :: is => countNext is
  | .seed _ :: is => countNext is
  | .state _ :: is => countNext is

/-- The data of the responses to the `NEXT` commands of a list, in order. -/
def nextData : List Instr → List Response → List Block
  | .next _ :: is, r :: rs => r.data :: nextData is rs
  | .nop _ :: is, _ :: rs => nextData is rs
  | .seed _ :: is, _ :: rs => nextData is rs
  | .state _ :: is, _ :: rs => nextData is rs
  | [], _ => []
  | _ :: _, [] => []

end Sys2Proof.Machine
end

