-- ==== Sys2Proof/Machine/Matrix.lean ====
section
/-! DEFINITION. Matrices over GF(2) (00_scope R11; 40_transition R81, R92, R93) and the reference matrix
`A_REF` by rows, as the spec prints it (R85). -/

namespace Sys2Proof.Machine

/-- A matrix by its rows: bit `j` of row `i` is the entry `[i][j]` (R11). A matrix of dimension `n` has `n`
rows, which is `Mat.wf`. -/
abbrev Mat (n : Nat) := List (BitVec n)

/-- The list has as many rows as the dimension says. -/
def Mat.wf {n : Nat} (A : Mat n) : Bool := A.length == n

/-- The value whose bit `i` is the `i`-th entry of a list, 0 where the list ends. -/
def ofBits (n : Nat) (bs : List Bool) : BitVec n := (BitVec.ofBoolListLE bs).setWidth n

/-- Row `i` of a matrix. -/
def Mat.row {n : Nat} (A : Mat n) (i : Nat) : BitVec n := A.getD i 0

/-- The entry `[i][j]` of a matrix. -/
def Mat.entry {n : Nat} (A : Mat n) (i j : Nat) : Bool := (A.row i).getLsbD j

/-- The product `A * x`: bit `i` is `parity(ROW_i(A) & x)` (R11, R81). -/
def Mat.mulVec {n : Nat} (A : Mat n) (x : BitVec n) : BitVec n :=
  ofBits n (A.map fun r => parity (r &&& x))

/-- The identity: row `i` is `1 << i` (R93). -/
def Mat.identity (n : Nat) : Mat n := (List.range n).map fun i => BitVec.twoPow n i

/-- The XOR of those rows of `K`, the first of them numbered `k`, whose number is a one bit of `s`. -/
def Mat.selectRows {n : Nat} (s : BitVec n) : Nat → Mat n → BitVec n
  | _, [] => 0
  | k, r :: rs => (if s.getLsbD k then r else 0) ^^^ Mat.selectRows s (k + 1) rs

/-- The product of two matrices: row `i` is the XOR of the rows `k` of `K` with `M[i][k] = 1` (R93). -/
def Mat.mul {n : Nat} (M K : Mat n) : Mat n := M.map fun r => Mat.selectRows r 0 K

/-- Square and multiply over the bits of `e` from the least significant, `fuel` of them (R93): `B` is the
running square and `R` the result. -/
def Mat.powLoop {n : Nat} : Nat → Nat → Mat n → Mat n → Mat n
  | 0, _, _, R => R
  | fuel + 1, e, B, R =>
    Mat.powLoop fuel (e / 2) (Mat.mul B B) (if e % 2 = 1 then Mat.mul R B else R)

/-- The power `M ** e`; `e` has `Nat.size e` bits (R93). -/
def Mat.pow {n : Nat} (M : Mat n) (e : Nat) : Mat n := Mat.powLoop e.size e M (Mat.identity n)

/-- The matrix of a function: column `j` is `f(1 << j)` (R92). -/
def Mat.ofFunction {n : Nat} (f : BitVec n → BitVec n) : Mat n :=
  let columns := (List.range n).map fun j => f (BitVec.twoPow n j)
  (List.range n).map fun i => ofBits n (columns.map fun c => c.getLsbD i)

/-- A matrix with one entry flipped (R98). -/
def Mat.flip {n : Nat} (A : Mat n) (i j : Nat) : Mat n := A.set i (A.row i ^^^ BitVec.twoPow n j)

/-- Rows 0 to 15 of `A_REF` (R85). -/
def aRefRows0 : Mat 128 := [
  0x00000000000000010000000000008001, 0x00000000000000020000000000010002,
  0x00000000000000040000000000020004, 0x00000000000000080000000000040008,
  0x00000000000000100000000000080010, 0x00000000000000200000000000100020,
  0x00000000000000400000000000200040, 0x00000000000000800000000000400080,
  0x00000000000001000000000000800100, 0x00000000000002000000000001000200,
  0x00000000000004000000000002000400, 0x00000000000008000000000004000800,
  0x00000000000010000000000008001000, 0x00000000000020000000000010002000,
  0x00000000000040000000000020004000, 0x00000000000080000000000040008000]

/-- Rows 16 to 31 of `A_REF` (R85). -/
def aRefRows16 : Mat 128 := [
  0x00000000000100000000000080010000, 0x00000000000200000000000100020000,
  0x00000000000400000000000200040000, 0x00000000000800000000000400080000,
  0x00000000001000000000000800100000, 0x00000000002000010000001000200001,
  0x00000000004000020000002000400002, 0x00000000008000040000004000800004,
  0x00000000010000080000008001000008, 0x00000000020000100000010002000010,
  0x00000000040000200000020004000020, 0x00000000080000400000040008000040,
  0x00000000100000800000080010000080, 0x00000000200001000000100020000100,
  0x00000000400002000000200040000200, 0x00000000800004000000400080000400]

/-- Rows 32 to 47 of `A_REF` (R85). -/
def aRefRows32 : Mat 128 := [
  0x00000001000008000000800100000800, 0x00000002000010000001000200001000,
  0x00000004000020000002000400002000, 0x00000008000040000004000800004000,
  0x00000010000080000008001000008000, 0x00000020000100000010002000010000,
  0x00000040000200000020004000020000, 0x00000080000400000040008000040000,
  0x00000100000800000080010000080000, 0x00000200001000000100020000100000,
  0x00000400002000000200040000200000, 0x00000800004000000400080000400000,
  0x00001000008000000800100000800000, 0x00002000010000001000200001000000,
  0x00004000020000002000400002000000, 0x00008000040000004000800004000000]

/-- Rows 48 to 63 of `A_REF` (R85). -/
def aRefRows48 : Mat 128 := [
  0x00010000080000008001000008000000, 0x00020000100000000002000010000001,
  0x00040000200000000004000020000002, 0x00080000400000000008000040000004,
  0x00100000800000000010000080000008, 0x00200001000000000020000100000010,
  0x00400002000000000040000200000020, 0x00800004000000000080000400000040,
  0x01000008000000000100000800000080, 0x02000010000000000200001000000100,
  0x04000020000000000400002000000200, 0x08000040000000000800004000000400,
  0x10000080000000001000008000000800, 0x20000100000000002000010000001000,
  0x40000200000000004000020000002000, 0x80000400000000008000040000004000]

/-- Rows 64 to 79 of `A_REF` (R85). -/
def aRefRows64 : Mat 128 := [
  0x00000010000000000000001000000000, 0x00000020000000000000002000000000,
  0x00000040000000000000004000000000, 0x00000080000000000000008000000000,
  0x00000100000000000000010000000000, 0x00000200000000000000020000000000,
  0x00000400000000000000040000000000, 0x00000800000000000000080000000000,
  0x00001000000000000000100000000000, 0x00002000000000000000200000000000,
  0x00004000000000000000400000000000, 0x00008000000000000000800000000000,
  0x00010000000000000001000000000000, 0x00020000000000000002000000000000,
  0x00040000000000000004000000000000, 0x00080000000000000008000000000000]

/-- Rows 80 to 95 of `A_REF` (R85). -/
def aRefRows80 : Mat 128 := [
  0x00100000000000000010000000000000, 0x00200000000000000020000000000000,
  0x00400000000000000040000000000000, 0x00800000000000000080000000000000,
  0x01000000000000000100000000000000, 0x02000000000000000200000000000000,
  0x04000000000000000400000000000000, 0x08000000000000000800000000000000,
  0x10000000000000001000000000000000, 0x20000000000000002000000000000000,
  0x40000000000000004000000000000000, 0x80000000000000008000000000000000,
  0x00000000000000010000000000000001, 0x00000000000000020000000000000002,
  0x00000000000000040000000000000004, 0x00000000000000080000000000000008]

/-- Rows 96 to 111 of `A_REF` (R85). -/
def aRefRows96 : Mat 128 := [
  0x00000000000000100000000000000010, 0x00000000000000200000000000000020,
  0x00000000000000400000000000000040, 0x00000000000000800000000000000080,
  0x00000000000001000000000000000100, 0x00000000000002000000000000000200,
  0x00000000000004000000000000000400, 0x00000000000008000000000000000800,
  0x00000000000010000000000000001000, 0x00000000000020000000000000002000,
  0x00000000000040000000000000004000, 0x00000000000080000000000000008000,
  0x00000000000100000000000000010000, 0x00000000000200000000000000020000,
  0x00000000000400000000000000040000, 0x00000000000800000000000000080000]

/-- Rows 112 to 127 of `A_REF` (R85). -/
def aRefRows112 : Mat 128 := [
  0x00000000001000000000000000100000, 0x00000000002000000000000000200000,
  0x00000000004000000000000000400000, 0x00000000008000000000000000800000,
  0x00000000010000000000000001000000, 0x00000000020000000000000002000000,
  0x00000000040000000000000004000000, 0x00000000080000000000000008000000,
  0x00000000100000000000000010000000, 0x00000000200000000000000020000000,
  0x00000000400000000000000040000000, 0x00000000800000000000000080000000,
  0x00000001000000000000000100000000, 0x00000002000000000000000200000000,
  0x00000004000000000000000400000000, 0x00000008000000000000000800000000]

/-- `A_REF`, all 128 rows (R85). -/
def aRef : Mat 128 :=
  aRefRows0 ++ aRefRows16 ++ aRefRows32 ++ aRefRows48 ++ aRefRows64 ++ aRefRows80 ++ aRefRows96 ++ aRefRows112

end Sys2Proof.Machine
end

