-- ==== Sys2Proof/Machine/Verifier.lean ====
section
/-! DEFINITION. The design-time check of the source (40_transition R92 to R99): no hardware and no state of
the block (60_exceptions R148), but in scope as the check on the parameter `A` (00_scope R4). -/

namespace Sys2Proof.Machine

/-- The first row at or below the pivot position with a 1 in column `c` (R94). -/
def Verifier.findPivot {n : Nat} (A : Mat n) (pivot c : Nat) : Option Nat :=
  (List.range A.length).find? fun i => decide (pivot ≤ i) && A.entry i c

/-- Row `r` is XORed into every row but the pivot row that has a 1 in column `c` (R94). -/
def Verifier.clearColumn {n : Nat} (A : Mat n) (pivot c : Nat) (r : BitVec n) : Mat n :=
  A.zipIdx.map fun q => if q.2 != pivot && q.1.getLsbD c then q.1 ^^^ r else q.1

/-- Elimination of one column: find, swap, clear, advance the pivot position (R94). -/
def Verifier.eliminate {n : Nat} (st : Nat × Mat n) (c : Nat) : Nat × Mat n :=
  match Verifier.findPivot st.2 st.1 c with
  | none => st
  | some i =>
    let r := st.2.row i
    let swapped := (st.2.set i (st.2.row st.1)).set st.1 r
    (st.1 + 1, Verifier.clearColumn swapped st.1 c r)

/-- The rank over GF(2): the final pivot position (R94). -/
def Verifier.rank {n : Nat} (A : Mat n) : Nat := ((List.range n).foldl Verifier.eliminate (0, A)).1

/-- The nine prime factors of `2**128 - 1` (R95, 90_conflicts C1). -/
def Verifier.primes : List Nat :=
  [3, 5, 17, 257, 641, 65537, 274177, 6700417, 67280421310721]

/-- The source's list of seven, whose product is `2**64 - 1`: wrong, kept as the witness of C1 (R95). -/
def Verifier.sourcePrimes : List Nat := [3, 5, 17, 257, 65537, 641, 6700417]

/-- The order check (i): `A ** N = I` (R95). -/
def Verifier.identityCheck {n : Nat} (N : Nat) (A : Mat n) : Bool := A.pow N == Mat.identity n

/-- The order check (ii): `A ** (N/p) != I` for each listed `p` (R95). -/
def Verifier.primeCheck {n : Nat} (N : Nat) (ps : List Nat) (A : Mat n) : Bool :=
  ps.all fun p => A.pow (N / p) != Mat.identity n

/-- The whole check: rank, then (i), then (ii) (R94, R95; (i) is not optional, C5). -/
def Verifier.check {n : Nat} (N : Nat) (ps : List Nat) (A : Mat n) : Bool :=
  Verifier.rank A == n && Verifier.identityCheck N A && Verifier.primeCheck N ps A

/-- The check a candidate transition must pass to be a generator design: the matrix is made from the
function (R92) and checked with the nine primes; false is "the candidate `f` is rejected" (R148). -/
def Verifier.accepts (f : Block → Block) : Bool :=
  Verifier.check Config.period Verifier.primes (Mat.ofFunction f)

end Sys2Proof.Machine
end

