-- ==== Sys2Proof/Safety.lean ====
section
/-! DEFINITION. What claims speak of: the invariant of the state (10_state R22), the properties that legal
parameters have (40_transition R82, 41_output R110, 00_scope R7), and runs whose responses are all `OK`
(93_implementation_defined U7). -/

namespace Sys2Proof.Machine

/-- The guard's invariant: `VALID = (S != 0)` (R22). -/
abbrev State.GuardInv (s : State) : Prop := s.VALID = true ↔ s.S ≠ 0

/-- A failure status in the response register stands beside data 0 (30_encoding R61, 60_exceptions R145). -/
abbrev State.RspInv (s : State) : Prop := s.RSP.status ≠ .ok → s.RSP.data = 0

/-- The invariant that every step keeps. -/
abbrev State.Inv (s : State) : Prop := s.GuardInv ∧ s.RspInv

/-- `f` is linear over GF(2) (R82 (a), R87). -/
def Linear {n : Nat} (f : BitVec n → BitVec n) : Prop := ∀ x y, f (x ^^^ y) = f x ^^^ f y

/-- A matrix has the multiplicative order `N`: the powers that are the identity are the multiples (R82). -/
def Mat.HasOrder {n : Nat} (A : Mat n) (N : Nat) : Prop :=
  ∀ k, A.pow k = Mat.identity n ↔ N ∣ k

/-- Output bit `k` of `g` is an affine function of the argument's bits: the parity of some of them, plus a
constant (R110, R116). -/
def AffineOutputBit (g : Block → Word) (k : Nat) : Prop :=
  ∃ (mask : Block) (c : Bool), ∀ x, (g x).getLsbD k = (parity (mask &&& x) ^^ c)

end Sys2Proof.Machine

namespace Sys2Proof

open Sys2Proof.Machine

/-- The legal parameters: `f` is multiplication by an invertible matrix of order exactly `2**128 - 1` (R82),
no output bit of `g` is affine (R110), and the fallback state is not zero (R7). -/
structure Params.Admissible (p : Params) : Prop where
  linear : Linear p.f
  rank : Verifier.rank (Mat.ofFunction p.f) = 128
  order : (Mat.ofFunction p.f).HasOrder Config.period
  nonAffine : ∀ k < 64, ¬ AffineOutputBit p.g k
  fallback : p.wellFormed = true

end Sys2Proof

namespace Sys2Proof.Machine

/-- No response other than `OK` (U7). -/
def allOk (rs : List Response) : Bool := rs.all fun r => r.status == .ok

/-- A safe run: the commands, applied from the reset state, all do what they name. -/
def SafeRun (p : Params) (is : List Instr) : Prop := allOk (runFromReset p is).1 = true

end Sys2Proof.Machine
end

