-- ==== Sys2Proof/Certificates/Slice0/Obligations.lean ====
section
/-! DEFINITION. The statements for the provers, from the numbered rules of spec/. A docstring names the rule;
where the spec marks a sentence as its own decision or as derived, it says so. -/

open Sys2Proof Sys2Proof.Machine

/-! ### Encoding, the command port and the step -/

/-- 30_encoding R57 (codes: the spec's decision D7): the four rows of the opcode map, by match and mask. -/
def Obligations.OpcodeMapSelectsTheCommand : Prop :=
  opcodeMask = 0x300000000000000000000000000000000 ∧
  (∀ cw : CmdWord, cw &&& opcodeMask = (0 : CmdWord) <<< 128 → decode cw = .nop (cwData cw)) ∧
  (∀ cw : CmdWord, cw &&& opcodeMask = (1 : CmdWord) <<< 128 → decode cw = .seed (cwData cw)) ∧
  (∀ cw : CmdWord, cw &&& opcodeMask = (2 : CmdWord) <<< 128 → decode cw = .next (cwData cw)) ∧
  (∀ cw : CmdWord, cw &&& opcodeMask = (3 : CmdWord) <<< 128 → decode cw = .state (cwData cw)) ∧
  (∀ cw : CmdWord, cw &&& opcodeMask = (0 : CmdWord) <<< 128 ∨ cw &&& opcodeMask = (1 : CmdWord) <<< 128 ∨
    cw &&& opcodeMask = (2 : CmdWord) <<< 128 ∨ cw &&& opcodeMask = (3 : CmdWord) <<< 128)

/-- R56, R57, R62: commands and 130-bit words are in one-to-one correspondence. -/
def Obligations.DecodeAndEncodeAreInverse : Prop :=
  (∀ i : Instr, decode (encode i) = i) ∧ (∀ cw : CmdWord, encode (decode cw) = cw)

/-- R57, R126 to R129: words written out from the encodings. -/
def Obligations.WrittenOutWordsDecode : Prop :=
  decode 0x000000000000000000000000000000000 = .nop 0 ∧
  decode 0x10000000000000000000000000000002a = .seed 42 ∧
  decode 0x1ffffffffffffffffffffffffffffffff = .seed 0xffffffffffffffffffffffffffffffff ∧
  decode 0x180000000000000000000000000000000 = .seed 0x80000000000000000000000000000000 ∧
  decode 0x200000000000000000000000000000000 = .next 0 ∧
  decode 0x2000000000000000000000000deadbeef = .next 0xdeadbeef ∧
  decode 0x300000000000000000000000000000000 = .state 0

/-- R62 (the spec's decision D7): no illegal command word, ignored bits are no error, and the reserved
response status is never produced. -/
def Obligations.NoCommandWordIsIllegal : Prop :=
  (∀ n, n < 2 ^ 130 → ∃ i, decodeNat n = .ok i) ∧
  (∀ (cw : CmdWord) (s : State), ∃ t, exec (decode cw) s = .next t ∧ statusCode t.RSP.status ≠ 0b11) ∧
  (∀ (d : Block) (s : State), exec (.nop d) s = exec (.nop 0) s ∧ exec (.next d) s = exec (.next 0) s ∧
    exec (.state d) s = exec (.state 0) s)

/-- R60 (D7): the operand of `SEED` is stored as it stands, 0 is the value the guard catches, the other
commands do the same thing whatever their operand holds, and an assembler emits zeros there. -/
def Obligations.OnlySeedUsesItsOperand : Prop :=
  (∀ (v : Block) (s : State), v ≠ 0 → ∃ t, exec (.seed v) s = .next t ∧ t.S = v) ∧
  (∀ s : State, exec (.seed 0) s = .next (s.raise .invalidSeed)) ∧
  (∀ (d e : Block) (s : State), exec (.nop d) s = exec (.nop e) s ∧ exec (.next d) s = exec (.next e) s ∧
    exec (.state d) s = exec (.state e) s) ∧
  AsmLine.nop.assemble = .ok ⟨false, true, 0b00, 0⟩ ∧ AsmLine.next.assemble = .ok ⟨false, true, 0b10, 0⟩ ∧
  AsmLine.state.assemble = .ok ⟨false, true, 0b11, 0⟩

/-- R64 (D7): the five lines of a listing; an immediate below `2**128` becomes the operand, a larger one is
no line, and `RESET` is an edge with `rst = 1`. -/
def Obligations.AssemblerLinesMeanTheirCommands : Prop :=
  (∀ imm, imm < 2 ^ 128 → ∃ e, (AsmLine.seed imm).assemble = .ok e ∧ e.rst = false ∧ e.cmdValid = true ∧
    decode e.word = .seed (BitVec.ofNat 128 imm)) ∧
  (∀ imm, 2 ^ 128 ≤ imm → (AsmLine.seed imm).assemble = .error .immediateTooLarge) ∧
  (∃ e, AsmLine.reset.assemble = .ok e ∧ e.rst = true) ∧
  (∃ e, AsmLine.nop.assemble = .ok e ∧ e.cmdValid = true ∧ decode e.word = .nop 0) ∧
  (∃ e, AsmLine.next.assemble = .ok e ∧ e.cmdValid = true ∧ decode e.word = .next 0) ∧
  (∃ e, AsmLine.state.assemble = .ok e ∧ e.cmdValid = true ∧ decode e.word = .state 0)

/-- R66: a step that meets a presented command is that command's execution. The list of coming inputs is
the model's (log 1): the step also takes the edge off it. -/
def Obligations.StepRunsThePresentedCommand : Prop :=
  ∀ (s : State) (e : Edge) (rest : List Edge) (i : Instr),
    s.host = e :: rest → e.rst = false → e.cmdValid = true → decode (mkCmdWord e.cmdOp e.cmdData) = i →
    step s = exec i { s with host := rest }

/-- R66: what happens at a rising edge, in its three cases, and that a command right after another sees
the state the earlier one wrote. -/
def Obligations.ClockEdgeDoesOneOfThreeThings : Prop :=
  ∀ (s : State) (e : Edge) (rest : List Edge), s.host = e :: rest →
    (e.rst = true → step s = .next ⟨0, false, ⟨false, .ok, 0⟩, rest⟩) ∧
    (e.rst = false → e.cmdValid = true → ∃ t, exec (decode e.word) { s with host := rest } = .next t ∧
      step s = .next t ∧ t.RSP.valid = true ∧ t.host = rest) ∧
    (e.rst = false → e.cmdValid = false →
      step s = .next { s with RSP := ⟨false, s.RSP.status, s.RSP.data⟩, host := rest }) ∧
    (∀ (i j : Instr) (t : State),
      exec i { s with host := Edge.command (encode j) :: rest } = .next t →
      core.run 2 { s with host := Edge.command (encode i) :: Edge.command (encode j) :: rest } =
        exec j { t with host := rest })

/-- The model's own (log 1, log 7): a word of the opcode table placed on the port is decoded and run by the
very next step, in any state; a number of more than 130 bits is no command word. -/
def Obligations.PlacedTableWordRunsNext : Prop :=
  (∀ (i : Instr) (s : State), decodeTableWord 136 (encode i).toNat = some i ∧
    step (s.withFetchWord 136 (encode i).toNat) = exec i { s with host := s.host.tail }) ∧
  (∀ n, 2 ^ 130 ≤ n → decodeNat n = .error .widerThanCommandWord)

/-- R125: one command is total, deterministic, reads only `(S, VALID)` and its word, and writes no state
unless its status is `OK`; there is no fault and no stall. -/
def Obligations.CommandDependsOnStateAndWordOnly : Prop :=
  (∀ (i : Instr) (s s' : State), s.S = s'.S → s.VALID = s'.VALID →
    ∃ t t', exec i s = .next t ∧ exec i s' = .next t' ∧ t.S = t'.S ∧ t.VALID = t'.VALID ∧ t.RSP = t'.RSP ∧
      t.host = s.host ∧ t'.host = s'.host ∧
      (t.RSP.status ≠ .ok → t.S = s.S ∧ t.VALID = s.VALID)) ∧
  (∀ s : State, ∃ t, step s = .next t)

/-! ### Reset -/

/-- 10_state R30 (D14): the state after reset; `NEXT` and `STATE` in it are refused with data 0. That the
host has nothing listed is the model's choice (log 1). -/
def Obligations.ResetLeavesTheSpecifiedValues : Prop :=
  State.reset.S = 0x00000000000000000000000000000000 ∧ State.reset.VALID = false ∧
  outPorts State.reset = ⟨false, 0b00, 0, false⟩ ∧
  (∀ d, ∃ t, exec (.next d) State.reset = .next t ∧ t.response = ⟨.notSeeded, 0⟩) ∧
  (∀ d, ∃ t, exec (.state d) State.reset = .next t ∧ t.response = ⟨.notSeeded, 0⟩)

/-- 70_reset R170 (D14): an edge with `rst = 1` gives every element its reset value whatever command is
presented, holding `rst` keeps it so, only reset brings `VALID` back to 0, and a run starts at reset. -/
def Obligations.ResetIsTheOnlyWayBackToUnseeded : Prop :=
  (∀ (s : State) (e : Edge) (rest : List Edge), s.host = e :: rest → e.rst = true →
    step s = .next { State.reset with host := rest }) ∧
  (∀ (es rest : List Edge) (s : State), es ≠ [] → (∀ e ∈ es, e.rst = true) →
    core.run es.length { s with host := es ++ rest } = .next { State.reset with host := rest }) ∧
  (∀ s t : State, step s = .next t → s.VALID = true → t.VALID = false → s.presented.rst = true) ∧
  core.reset = State.reset

/-- R171 (derived): two blocks are in the same state after reset whatever they did before. -/
def Obligations.ResetForgetsTheEarlierGenerator : Prop :=
  ∀ (s s' : State) (e e' : Edge) (rest : List Edge), s.host = e :: rest → s'.host = e' :: rest →
    e.rst = true → e'.rst = true → step s = step s' ∧ ∃ t, step s = .next t ∧ t.S = 0 ∧ t.VALID = false

/-! ### The commands -/

/-- R126: `NOP`, with its worked example. -/
def Obligations.NopAnswersOkAndChangesNothing : Prop :=
  (∀ d : Block, decode (mkCmdWord 0b00 d) = .nop d) ∧
  (∀ (d : Block) (s : State), exec (.nop d) s = .next { s with RSP := ⟨true, .ok, 0⟩ }) ∧
  (∀ s : State, s.S = 0x2a → s.VALID = true →
    ∃ t, exec (decode 0x000000000000000000000000000000000) s = .next t ∧ t.response = ⟨.ok, 0⟩ ∧
      t.S = 0x2a ∧ t.VALID = true)

/-- R127 (policy: the spec's decision D3; fallback D4): `SEED` under both policies, its corner cases and
worked examples. -/
def Obligations.SeedStoresRefusesOrRemaps : Prop :=
  (∀ v : Block, decode (mkCmdWord 0b01 v) = .seed v) ∧
  (∀ (v : Block) (s : State), v ≠ 0 →
    exec (.seed v) s = .next { s with S := v, VALID := true, RSP := ⟨true, .ok, 0⟩ }) ∧
  (∀ s : State, exec (.seed 0) s = .next { s with RSP := ⟨true, .invalidSeed, 0⟩ }) ∧
  (∀ (p : Params) (v : Block) (s : State), v ≠ 0 →
    seedRule p v s = { s with S := v, VALID := true, RSP := ⟨true, .ok, 0⟩ }) ∧
  (∀ (p : Params) (s : State), p.zeroSeedPolicy = .reject →
    seedRule p 0 s = { s with RSP := ⟨true, .invalidSeed, 0⟩ }) ∧
  (∀ (p : Params) (s : State), p.zeroSeedPolicy = .remap →
    seedRule p 0 s = { s with S := p.fallbackState, VALID := true, RSP := ⟨true, .ok, 0⟩ }) ∧
  (∀ (p : Params) (v : Block) (s : State), p.wellFormed = true →
    ((seedRule p v s).S = s.S ∧ (seedRule p v s).VALID = s.VALID) ∨ (seedRule p v s).S ≠ 0) ∧
  hardware.zeroSeedPolicy = .reject ∧ hardware.fallbackState = 1 ∧
  (∀ s : State, s.S = 0 → s.VALID = false →
    ∃ t, exec (decode 0x10000000000000000000000000000002a) s = .next t ∧ t.response = ⟨.ok, 0⟩ ∧
      t.S = 0x2a ∧ t.VALID = true) ∧
  (∀ s : State, s.S = 0 → s.VALID = false →
    ∃ t, exec (decode 0x100000000000000000000000000000000) s = .next t ∧
      t.response = ⟨.invalidSeed, 0⟩ ∧ t.S = 0 ∧ t.VALID = false)

/-- R128: `NEXT` advances and then answers the output of the new state; unseeded, it is refused (D13).
Its corner cases (a) to (d) and worked example; (e) is `EveryNonzeroStateLiesOnOneCycle`. -/
def Obligations.NextAdvancesThenOutputs : Prop :=
  (∀ d : Block, decode (mkCmdWord 0b10 d) = .next d) ∧
  (∀ (d : Block) (s : State), s.VALID = true → exec (.next d) s =
    .next { s with
      S := transition s.S, RSP := ⟨true, .ok, (combine (transition s.S)).setWidth 128⟩ }) ∧
  (∀ (d : Block) (s : State), s.VALID = false →
    exec (.next d) s = .next { s with RSP := ⟨true, .notSeeded, 0⟩ }) ∧
  (∀ (d : Block) (s t : State), s.Inv → s.VALID = true → exec (.next d) s = .next t →
    t.S ≠ 0 ∧ t.RSP.data.extractLsb' 64 64 = 0#64) ∧
  (∃ s t : State, s.Inv ∧ s.VALID = true ∧ exec (.next 0) s = .next t ∧ t.RSP.data = 0) ∧
  (∀ s : State, s.S = 0x2a → s.VALID = true →
    ∃ t, exec (decode 0x200000000000000000000000000000000) s = .next t ∧
      t.S = 0x00000002a0000000005400000540002a ∧ t.VALID = true ∧
      t.response = ⟨.ok, 0x000000000000000000594a80059400d2⟩)

/-- R129: `STATE` answers the raw state and changes nothing; unseeded, it is refused (D13). Its corner cases
and worked example. -/
def Obligations.StateAnswersTheRawState : Prop :=
  (∀ d : Block, decode (mkCmdWord 0b11 d) = .state d) ∧
  (∀ (d : Block) (s : State), s.VALID = true →
    exec (.state d) s = .next { s with RSP := ⟨true, .ok, s.S⟩ }) ∧
  (∀ (d : Block) (s : State), s.VALID = false →
    exec (.state d) s = .next { s with RSP := ⟨true, .notSeeded, 0⟩ }) ∧
  (∀ (v : Block) (s : State), v ≠ 0 →
    (stateRule (seedRule hardware v s)).response = ⟨.ok, v⟩ ∧
    (stateRule (nextRule hardware (seedRule hardware v s))).response = ⟨.ok, transition v⟩) ∧
  (∀ s s' : State, s.Inv → s.VALID = true →
    (nextRule hardware (seedRule hardware (stateRule s).RSP.data s')).response =
      (nextRule hardware s).response) ∧
  (∀ s : State, s.Inv → (stateRule s).RSP.status = .ok → (stateRule s).RSP.data ≠ 0) ∧
  (∀ s : State, s.S = 0x00000002a0000000005400000540002a → s.VALID = true →
    ∃ t, exec (decode 0x300000000000000000000000000000000) s = .next t ∧
      t.response = ⟨.ok, 0x00000002a0000000005400000540002a⟩ ∧ t.S = s.S ∧ t.VALID = true)

/-- 10_state R31 (derived): the access table, as frames (what each command leaves unchanged) and as what
the answers of `NOP` and `SEED` do not depend on. -/
def Obligations.CommandsTouchOnlyTheirElements : Prop :=
  (∀ (d : Block) (s t : State), exec (.nop d) s = .next t →
    t.S = s.S ∧ t.VALID = s.VALID ∧ t.host = s.host) ∧
  (∀ (v : Block) (s t : State), exec (.seed v) s = .next t →
    t.host = s.host ∧ (v = 0 → t.S = s.S ∧ t.VALID = s.VALID)) ∧
  (∀ (d : Block) (s t : State), exec (.next d) s = .next t →
    t.VALID = s.VALID ∧ t.host = s.host ∧ (s.VALID = false → t.S = s.S)) ∧
  (∀ (d : Block) (s t : State), exec (.state d) s = .next t →
    t.S = s.S ∧ t.VALID = s.VALID ∧ t.host = s.host) ∧
  (∀ (v : Block) (s s' t t' : State), exec (.seed v) s = .next t → exec (.seed v) s' = .next t' →
    t.RSP = t'.RSP) ∧
  (∀ (d : Block) (s s' t t' : State), exec (.nop d) s = .next t → exec (.nop d) s' = .next t' →
    t.RSP = t'.RSP)

/-- 60_exceptions R145: the complete list of failures, with their exact conditions. -/
def Obligations.FailureConditionsAreComplete : Prop :=
  ∀ (p : Params) (i : Instr) (s : State),
    ((commandRule p i s).RSP.status = .invalidSeed ↔ i = .seed 0 ∧ p.zeroSeedPolicy = .reject) ∧
    ((commandRule p i s).RSP.status = .notSeeded ↔
      (∃ d, i = .next d ∨ i = .state d) ∧ s.VALID = false) ∧
    ((commandRule p i s).RSP.status ≠ .ok →
      (commandRule p i s).RSP.data = 0 ∧ (commandRule p i s).S = s.S ∧ (commandRule p i s).VALID = s.VALID)

/-- R146 (D9): a failure is reported and leaves no trace; the same command fails again in the same way, and
any later command does what it would have done. -/
def Obligations.FailureLeavesNoTrace : Prop :=
  ∀ (p : Params) (i : Instr) (s : State), (commandRule p i s).RSP.status ≠ .ok →
    (commandRule p i s).S = s.S ∧ (commandRule p i s).VALID = s.VALID ∧
    commandRule p i (commandRule p i s) = commandRule p i s ∧
    (∀ j, commandRule p j (commandRule p i s) = commandRule p j s)

/-- R147: under `REMAP` the only failure is `NOT_SEEDED`. -/
def Obligations.RemapNeverAnswersInvalidSeed : Prop :=
  ∀ (p : Params) (i : Instr) (s : State), p.zeroSeedPolicy = .remap →
    (commandRule p i s).RSP.status ≠ .invalidSeed ∧
    ((commandRule p i s).RSP.status = .ok ∨ (commandRule p i s).RSP.status = .notSeeded)

/-- 10_state R24 (D13): what sets the latch, that no command clears it, what it gates, and its port. -/
def Obligations.ValidIsSetByStoringSeedsOnly : Prop :=
  (∀ s t : State, step s = .next t →
    (t.VALID = true ↔ s.presented.rst = false ∧ (s.VALID = true ∨
      (s.presented.cmdValid = true ∧ storesSeed hardware (decode s.presented.word) = true)))) ∧
  (∀ (d : Block) (s : State), s.VALID = false →
    exec (.next d) s = .next (s.raise .notSeeded) ∧ exec (.state d) s = .next (s.raise .notSeeded)) ∧
  (∀ s : State, (outPorts s).seeded = s.VALID)

/-- 30_encoding R58, R59: the status codes, the response word carries status and data faithfully, and the
reserved status is the only one that is no response. -/
def Obligations.ResponseWordsReadBack : Prop :=
  statusCode .ok = 0b00 ∧ statusCode .invalidSeed = 0b01 ∧ statusCode .notSeeded = 0b10 ∧
  (∀ r : Response, unpackResponse (packResponse r) = some r) ∧
  (∀ w : RspWord, unpackResponse w = none ↔ w.extractLsb' 128 2 = 0b11) ∧
  (∀ (w : RspWord) (r : Response), unpackResponse w = some r → packResponse r = w)

/-- R61 (D9): the data of every response. -/
def Obligations.ResponseDataTable : Prop :=
  (∀ (p : Params) (s : State), (nextRule p s).RSP.status = .ok →
    (nextRule p s).RSP.data.extractLsb' 0 64 = p.g (nextRule p s).S ∧
    (nextRule p s).RSP.data.extractLsb' 64 64 = 0#64) ∧
  (∀ s : State, (stateRule s).RSP.status = .ok → (stateRule s).RSP.data = s.S) ∧
  (∀ (p : Params) (v : Block) (s : State), (seedRule p v s).RSP.data = 0 ∧ (nopRule s).RSP.data = 0) ∧
  (∀ (p : Params) (i : Instr) (s : State), (commandRule p i s).RSP.status ≠ .ok →
    (commandRule p i s).RSP.data = 0)

/-! ### Invariants -/

/-- R22 at reset. -/
def Obligations.ResetMeetsTheInvariant : Prop := State.reset.Inv

/-- 10_state R22 (derived), 42_commands R130: `VALID = (S != 0)`, with data 0 beside every failure status, is
kept by every step, whatever the host presents. -/
def Obligations.EveryStepKeepsTheInvariant : Prop :=
  ∀ s : State, s.Inv → ∃ t, step s = .next t ∧ t.Inv

/-- R22 over the parameters (R7, U12): whatever `f` is, as long as it takes no nonzero state to zero, and
whatever legal fallback there is, every command keeps the invariant and every run has it. -/
def Obligations.NonzeroKeepingParametersKeepTheInvariant : Prop :=
  ∀ p : Params, (∀ x : Block, x ≠ 0 → p.f x ≠ 0) → p.wellFormed = true →
    (∀ (i : Instr) (s : State), s.Inv → (commandRule p i s).Inv) ∧
    (∀ is : List Instr, (runFromReset p is).2.Inv)

/-- R7, R82, R110: this hardware's parameters are legal, under either policy (the values are the spec's
decisions D1 to D4). -/
def Obligations.HardwareParametersAreAdmissible : Prop :=
  hardware.Admissible ∧ hardwareRemap.Admissible

/-! ### The transition -/

/-- 40_transition R83 (D1): the closed form on the two halves, `f(0) = 0`, and the worked example. -/
def Obligations.TransitionClosedForm : Prop :=
  (∀ hi lo : Word, transition (hi ++ lo) =
    (lo ^^^ hi).rotateLeft 28 ++ (lo.rotateLeft 49 ^^^ (lo ^^^ hi) ^^^ ((lo ^^^ hi) <<< 21))) ∧
  transition 0 = 0 ∧ transition 0x2a = 0x00000002a0000000005400000540002a

/-- R84 (derived): every output bit as an XOR of input bits. `(i + 15) % 64` is `(i - 49) mod 64` and
`(i + 36) % 64` is `(i - 28) mod 64`. -/
def Obligations.TransitionBitFormulas : Prop :=
  ∀ (x : Block) (i : Nat), i < 64 →
    (transition x).getLsbD i =
      (x.getLsbD ((i + 15) % 64) ^^ x.getLsbD i ^^ x.getLsbD (64 + i) ^^
        (decide (21 ≤ i) && (x.getLsbD (i - 21) ^^ x.getLsbD (64 + i - 21)))) ∧
    (transition x).getLsbD (64 + i) =
      (x.getLsbD ((i + 36) % 64) ^^ x.getLsbD (64 + (i + 36) % 64))

/-- R81, R85, R86 (derived), R92: the closed form is multiplication by the printed matrix, row by row, and
the printed matrix is the matrix of the closed form. -/
def Obligations.TransitionIsTheMatrixProduct : Prop :=
  (∀ x : Block, transition x = aRef.mulVec x) ∧
  (∀ (x : Block) (i : Nat), i < 128 → (transition x).getLsbD i = parity (aRef.row i &&& x)) ∧
  Mat.ofFunction transition = aRef

/-- R87 (derived): linearity, and `f` applied `k` times is multiplication by the `k`-th power. -/
def Obligations.TransitionIsLinear : Prop :=
  Linear transition ∧ transition 0 = 0 ∧
  (∀ (k : Nat) (x : Block), iterateF hardware k x = (aRef.pow k).mulVec x)

/-- R93: the product is composition and the power is iteration, in every dimension. -/
def Obligations.MatrixPowersAreIterates : Prop :=
  ∀ (n : Nat) (M K : Mat n), M.wf = true → K.wf = true →
    (∀ x, (M.mul K).mulVec x = M.mulVec (K.mulVec x)) ∧
    (∀ (e : Nat) (x : BitVec n), (M.pow e).mulVec x = (M.mulVec)^[e] x)

/-- R88 (derived): the inverse, both ways, with the worked examples. -/
def Obligations.TransitionInverseIsExact : Prop :=
  (∀ x : Block, transitionInv (transition x) = x) ∧ (∀ y : Block, transition (transitionInv y) = y) ∧
  transitionInv 0x00000002a0000000005400000540002a = 0x2a ∧
  transitionInv 1 = 0x00000000000080000000000000008000

/-- R89 (a), (b) (derived): no nonzero state goes to zero and none stays where it is. -/
def Obligations.TransitionFixesNoNonzeroState : Prop :=
  ∀ x : Block, x ≠ 0 → transition x ≠ 0 ∧ transition x ≠ x

/-- R89 (c), R128 (e) (derived): a nonzero state returns exactly after multiples of `2**128 - 1`
applications, and every nonzero state is reached from every other. -/
def Obligations.EveryNonzeroStateLiesOnOneCycle : Prop :=
  (∀ x : Block, x ≠ 0 → ∀ k, iterateF hardware k x = x ↔ Config.period ∣ k) ∧
  (∀ x y : Block, x ≠ 0 → y ≠ 0 → ∃ k, k < Config.period ∧ iterateF hardware k x = y)

/-- R91 (derived): `P_REF` annihilates every state under `f`. -/
def Obligations.ReferencePolynomialAnnihilates : Prop := ∀ x : Block, polyApply pRef transition x = 0

/-- R91 (derived): `x` has order `2**128 - 1` modulo `P_REF`, by the nine primes. -/
def Obligations.ReferencePolynomialIsPrimitive : Prop :=
  polyPow polyX Config.period = 1 ∧ ∀ q ∈ Verifier.primes, polyPow polyX (Config.period / q) ≠ 1

/-! ### The design-time check -/

/-- R95, 90_conflicts C1: the nine primes and their product, and what the source's seven multiply to. -/
def Obligations.PrimeFactorsOfThePeriod : Prop :=
  Verifier.primes.prod = Config.period ∧ (∀ q ∈ Verifier.primes, Nat.Prime q) ∧
  Verifier.sourcePrimes.prod = 2 ^ 64 - 1 ∧ 274177 * 67280421310721 = 2 ^ 64 + 1

/-- R97 (derived): the check, all three parts with the nine primes, accepts the transition of this
hardware. -/
def Obligations.VerifierAcceptsTheTransition : Prop := Verifier.accepts transition = true

/-- R96 (derived): in every dimension, a matrix that passes the check with a list of primes that holds every
prime factor of `N` has order exactly `N`. The source's list of seven does not hold every one (C1). -/
def Obligations.CheckWithAllPrimesProvesTheOrder : Prop :=
  ∀ (n N : Nat) (ps : List Nat) (A : Mat n), A.wf = true → 0 < N →
    (∀ q, Nat.Prime q → q ∣ N → q ∈ ps) → Verifier.check N ps A = true → A.HasOrder N

/-- R98 (derived), 90_conflicts C1: a matrix that the order check with the source's seven primes passes
although its order is a proper divisor of `2**128 - 1`; the nine primes catch it. -/
def Obligations.SourcePrimeListIsNotEnough : Prop :=
  Verifier.identityCheck Config.period (aRef.pow 274177) = true ∧
  Verifier.primeCheck Config.period Verifier.sourcePrimes (aRef.pow 274177) = true ∧
  Verifier.primeCheck Config.period Verifier.primes (aRef.pow 274177) = false ∧
  (aRef.pow 274177).pow (Config.period / 274177) = Mat.identity 128

/-- R98 (derived): the four negative controls fail the identity check. -/
def Obligations.NegativeControlsFail : Prop :=
  Verifier.identityCheck Config.period (aRef.flip 0 0) = false ∧
  Verifier.identityCheck Config.period (aRef.flip 127 5) = false ∧
  Verifier.identityCheck Config.period (Mat.ofFunction (n := 128) (familyStep 64 1 1 1)) = false ∧
  Verifier.identityCheck Config.period (Mat.ofFunction (n := 128) (familyStep 64 32 32 32)) = false

/-- R99 (derived, D19): the 16-bit analog is invertible with one cycle of 65535 nonzero states, and no member
of the family with 4-bit words has one cycle of 255. -/
def Obligations.SmallModelHasOneCycle : Prop :=
  (∀ x : BitVec 16, analog16Inv (analog16 x) = x) ∧
  (∀ x : BitVec 16, x ≠ 0 → ∀ k, analog16^[k] x = x ↔ 65535 ∣ k) ∧
  (∀ a b c : Nat, a ∈ [1, 2, 3] → b ∈ [1, 2, 3] → c ∈ [1, 2, 3] →
    ∃ x : BitVec 8, x ≠ 0 ∧ ∃ k, 0 < k ∧ k < 255 ∧ (familyStep 4 a b c)^[k] x = x)

/-! ### The combiner -/

/-- 41_output R111 (D2): `g` on the two halves, and the worked example. -/
def Obligations.CombinerClosedForm : Prop :=
  (∀ hi lo : Word, combine (hi ++ lo) = (lo + hi).rotateLeft 17 + lo) ∧
  combine 0x00000002a0000000005400000540002a = 0x00594a80059400d2

/-- R113, R117 (derived): the zero input and the corner cases. -/
def Obligations.CombinerCornerCases : Prop :=
  combine 0 = 0 ∧
  combine 0x0000000000000000ffffffffffffffff = 0xfffffffffffffffe ∧
  combine 0xffffffffffffffffffffffffffffffff = 0xfffffffffffdfffe ∧
  combine 0x80000000000000008000000000000000 = 0x8000000000000000 ∧
  combine 0x00000000000000008000000000000000 = 0x8000000000010000 ∧
  combine 1 = 0x20001 ∧ combine 0x00000000000000010000000000000000 = 0x20000

/-- R115 (derived): over every low half, every output has exactly one high half, given by the formula. -/
def Obligations.CombinerHasOnePreimagePerLowHalf : Prop :=
  ∀ v hi lo : Word, combine (hi ++ lo) = v ↔ hi = combinePreimageHi v lo

/-- R116 (derived), R110: no output bit of `g` is an affine function of the state bits. -/
def Obligations.NoOutputBitIsAffine : Prop := ∀ k < 64, ¬ AffineOutputBit combine k

/-! ### Command sequences -/

/-- 20_memory R48: clock edges that present a list of commands do what the left fold of the command rules
does, and each command's answer is the one in the list of responses. -/
def Obligations.ClockedRunIsTheFoldOfTheRules : Prop :=
  (∀ (cs : List Instr) (rest : List Edge) (s : State),
    core.run cs.length { s with host := commandEdges cs ++ rest } =
      .next { (runCommands hardware cs s).2 with host := rest }) ∧
  (∀ (p : Params) (cs : List Instr) (i : Instr) (s : State),
    runCommands p (cs ++ [i]) s =
      ((runCommands p cs s).1 ++ [(commandRule p i (runCommands p cs s).2).response],
        commandRule p i (runCommands p cs s).2))

/-- R131 (derived): the output sequence after a seed, whatever other commands lie between, and the three
values after `SEED 42`. -/
def Obligations.OutputSequenceAfterSeed : Prop :=
  (∀ (p : Params) (cs : List Instr) (s : State), s.VALID = true → (∀ i ∈ cs, storesSeed p i = false) →
    (runCommands p cs s).2.S = iterateF p (countNext cs) s.S ∧
    (runCommands p cs s).2.VALID = true ∧
    nextData cs (runCommands p cs s).1 =
      (List.range (countNext cs)).map fun k => zextOutput (p.g (iterateF p (k + 1) s.S))) ∧
  (∀ s : State, (runCommands hardware [.seed 42, .next 0, .next 0, .next 0] s).1.map Response.data =
    [0, 0x00594a80059400d2, 0x51af28b535545ffb, 0x24f9f6082e795f53])

/-- R132 (derived): save and restore. -/
def Obligations.SavedStateResumesTheSequence : Prop :=
  ∀ (p : Params) (s s' : State) (d : Block), s.Inv → (stateRule s).response = ⟨.ok, d⟩ →
    d ≠ 0 ∧ seedRule p d s' = { s' with S := d, VALID := true, RSP := ⟨true, .ok, 0⟩ } ∧
    (∀ cs, (runCommands p cs (seedRule p d s')).1 = (runCommands p cs (stateRule s)).1)

/-- 70_reset R172: until a `SEED` stores a state, `NEXT` and `STATE` are refused and nothing changes; with
`REJECT` a storing `SEED` has a nonzero operand, with `REMAP` any has. -/
def Obligations.NothingWorksBeforeTheFirstSeed : Prop :=
  (∀ (p : Params) (cs : List Instr) (s : State), s.VALID = false → (∀ i ∈ cs, storesSeed p i = false) →
    (runCommands p cs s).2.S = s.S ∧ (runCommands p cs s).2.VALID = false ∧
    (∀ q ∈ cs.zip (runCommands p cs s).1, (∃ d, q.1 = .next d ∨ q.1 = .state d) → q.2 = ⟨.notSeeded, 0⟩)) ∧
  (∀ (p : Params) (v : Block) (s : State), storesSeed p (.seed v) = true →
    (seedRule p v s).VALID = true ∧ (seedRule p v s).RSP.status = .ok) ∧
  (∀ (p : Params) (v : Block), p.zeroSeedPolicy = .reject → (storesSeed p (.seed v) = true ↔ v ≠ 0)) ∧
  (∀ (p : Params) (v : Block), p.zeroSeedPolicy = .remap → storesSeed p (.seed v) = true)

/-- 10_state R30, last sentence: while unseeded, no list of commands can tell what `S` holds. -/
def Obligations.UnseededStateIsUnobservable : Prop :=
  ∀ (p : Params) (cs : List Instr) (s : State) (x : Block), s.VALID = false →
    (runCommands p cs { s with S := x }).1 = (runCommands p cs s).1

/-- R47 (derived): reading is pure and drawing is not; a second `STATE` answers the same, a second `NEXT`
answers for the next state. -/
def Obligations.ReadingIsPureAndDrawingIsNot : Prop :=
  (∀ (d e : Block) (s t u : State), exec (.state d) s = .next t → exec (.state e) t = .next u →
    u.RSP = t.RSP ∧ u.S = s.S ∧ u.VALID = s.VALID) ∧
  (∀ (d e : Block) (s t u : State), s.VALID = true → exec (.next d) s = .next t →
    exec (.next e) t = .next u →
    t.RSP.data = zextOutput (combine (transition s.S)) ∧
    u.RSP.data = zextOutput (combine (transition (transition s.S)))) ∧
  (∀ (d e : Block) (s t u : State), exec (.nop d) s = .next t → exec (.state e) t = .next u →
    exec (.state e) s = .next u)

/-- U7, C4: a run that seeds first and never seeds with 0 has only `OK` responses, for any parameters. -/
def Obligations.SeededRunsAreSafe : Prop :=
  ∀ (p : Params) (v : Block) (cs : List Instr), v ≠ 0 → (∀ i ∈ cs, i ≠ .seed 0) →
    SafeRun p (.seed v :: cs)
end

