-- ==== Sys2Proof/Laws/State.lean ====
section
/-! SUPPORT. One lemma per field per operation on the state, so that no later proof unfolds a record
update, and the laws of the operations with each other. -/

namespace Sys2Proof.Machine

variable (s : State)

@[simp] theorem State.store_S (v : Block) : (s.store v).S = v := rfl
@[simp] theorem State.store_VALID (v : Block) : (s.store v).VALID = true := rfl
@[simp] theorem State.store_RSP (v : Block) : (s.store v).RSP = s.RSP := rfl
@[simp] theorem State.store_host (v : Block) : (s.store v).host = s.host := rfl

@[simp] theorem State.advanceTo_S (n : Block) : (s.advanceTo n).S = n := rfl
@[simp] theorem State.advanceTo_VALID (n : Block) : (s.advanceTo n).VALID = s.VALID := rfl
@[simp] theorem State.advanceTo_RSP (n : Block) : (s.advanceTo n).RSP = s.RSP := rfl
@[simp] theorem State.advanceTo_host (n : Block) : (s.advanceTo n).host = s.host := rfl

@[simp] theorem State.respond_S (st : Status) (d : Block) : (s.respond st d).S = s.S := rfl
@[simp] theorem State.respond_VALID (st : Status) (d : Block) : (s.respond st d).VALID = s.VALID := rfl
@[simp] theorem State.respond_RSP (st : Status) (d : Block) : (s.respond st d).RSP = ⟨true, st, d⟩ := rfl
@[simp] theorem State.respond_host (st : Status) (d : Block) : (s.respond st d).host = s.host := rfl

@[simp] theorem State.raise_S (st : Status) : (s.raise st).S = s.S := rfl
@[simp] theorem State.raise_VALID (st : Status) : (s.raise st).VALID = s.VALID := rfl
@[simp] theorem State.raise_RSP (st : Status) : (s.raise st).RSP = ⟨true, st, 0⟩ := rfl
@[simp] theorem State.raise_host (st : Status) : (s.raise st).host = s.host := rfl

@[simp] theorem State.clear_S : (s.clear).S = 0 := rfl
@[simp] theorem State.clear_VALID : (s.clear).VALID = false := rfl
@[simp] theorem State.clear_RSP : (s.clear).RSP = RspReg.reset := rfl
@[simp] theorem State.clear_host : (s.clear).host = s.host := rfl

@[simp] theorem State.dropResponse_S : (s.dropResponse).S = s.S := rfl
@[simp] theorem State.dropResponse_VALID : (s.dropResponse).VALID = s.VALID := rfl
@[simp] theorem State.dropResponse_RSP : (s.dropResponse).RSP = ⟨false, s.RSP.status, s.RSP.data⟩ := rfl
@[simp] theorem State.dropResponse_host : (s.dropResponse).host = s.host := rfl

@[simp] theorem State.consume_S : (s.consume).S = s.S := rfl
@[simp] theorem State.consume_VALID : (s.consume).VALID = s.VALID := rfl
@[simp] theorem State.consume_RSP : (s.consume).RSP = s.RSP := rfl
@[simp] theorem State.consume_host : (s.consume).host = s.host.tail := rfl

@[simp] theorem State.placeWord_S (cw : CmdWord) : (s.placeWord cw).S = s.S := rfl
@[simp] theorem State.placeWord_VALID (cw : CmdWord) : (s.placeWord cw).VALID = s.VALID := rfl
@[simp] theorem State.placeWord_RSP (cw : CmdWord) : (s.placeWord cw).RSP = s.RSP := rfl
@[simp] theorem State.placeWord_host (cw : CmdWord) : (s.placeWord cw).host = Edge.command cw :: s.host.tail := rfl

/-- Only the last response loaded counts: a command's answer hides every earlier one (60_exceptions R146). -/
theorem State.respond_respond (st st' : Status) (d d' : Block) :
    (s.respond st d).respond st' d' = s.respond st' d' := rfl

/-- Two states with equal fields are equal. -/
theorem State.eq_of_fields {s t : State} (hS : s.S = t.S) (hV : s.VALID = t.VALID) (hR : s.RSP = t.RSP)
    (hh : s.host = t.host) : s = t := by
  cases s; cases t; cases hS; cases hV; cases hR; cases hh; rfl

theorem Edge.word_command (cw : CmdWord) : (Edge.command cw).word = cw := by
  apply BitVec.eq_of_getLsbD_eq
  intro i hi
  simp only [Edge.word, Edge.command, mkCmdWord, cwOp, cwData, BitVec.getLsbD_append, BitVec.getLsbD_extractLsb']
  by_cases h : i < 128
  · simp [h]
  · have h2 : i - 128 < 2 := by omega
    simp [h, h2, show 128 + (i - 128) = i by omega]

end Sys2Proof.Machine
end

