-- ==== Sys2Proof/Laws/Commands.lean ====
section
/-! SUPPORT. What each command rule, `exec` and `step` can do, said once; later proofs cite these and unfold
no rule. -/

namespace Sys2Proof.Machine

/-- Every command answers the next state that its rule gives (42_commands R125). -/
theorem exec_eq_commandRule (i : Instr) (s : State) : exec i s = .next (commandRule hardware i s) := by
  cases i <;> rfl

/-- A `SEED` either stores a nonzero operand, refuses 0, or stores the fallback (R127). -/
theorem seedRule_cases (p : Params) (v : Block) (s : State) :
    (v ≠ 0 ∧ seedRule p v s = (s.store v).respond .ok 0) ∨
    (v = 0 ∧ p.zeroSeedPolicy = .reject ∧ seedRule p v s = s.raise .invalidSeed) ∨
    (v = 0 ∧ p.zeroSeedPolicy = .remap ∧ seedRule p v s = (s.store p.fallbackState).respond .ok 0) := by
  by_cases hv : v = 0
  · cases hp : p.zeroSeedPolicy <;> simp [seedRule, zeroDetect, hv, hp]
  · exact .inl ⟨hv, if_neg fun h => hv (eq_of_beq h)⟩

/-- A `NEXT` either advances and answers the output of the new state, or is refused (R128). -/
theorem nextRule_cases (p : Params) (s : State) :
    (s.VALID = true ∧
      nextRule p s = (s.advanceTo (p.f s.S)).respond .ok (zextOutput (p.g (p.f s.S)))) ∨
    (s.VALID = false ∧ nextRule p s = s.raise .notSeeded) := by
  cases h : s.VALID <;> simp [nextRule, h]

/-- A `STATE` either answers the state, or is refused (R129). -/
theorem stateRule_cases (s : State) :
    (s.VALID = true ∧ stateRule s = s.respond .ok s.S) ∨
    (s.VALID = false ∧ stateRule s = s.raise .notSeeded) := by
  cases h : s.VALID <;> simp [stateRule, h]

/-- No command touches what the host will present (10_state R25). -/
@[simp] theorem commandRule_host (p : Params) (i : Instr) (s : State) :
    (commandRule p i s).host = s.host := by
  cases i with
  | nop _ => rfl
  | seed v =>
    obtain ⟨_, h⟩ | ⟨_, _, h⟩ | ⟨_, _, h⟩ := seedRule_cases p v s <;> simp [commandRule, h]
  | next _ => obtain ⟨_, h⟩ | ⟨_, h⟩ := nextRule_cases p s <;> simp [commandRule, h]
  | state _ => obtain ⟨_, h⟩ | ⟨_, h⟩ := stateRule_cases s <;> simp [commandRule, h]

/-- Every accepted command loads a response (30_encoding R58, R66). -/
@[simp] theorem commandRule_rsp_valid (p : Params) (i : Instr) (s : State) :
    (commandRule p i s).RSP.valid = true := by
  cases i with
  | nop _ => rfl
  | seed v =>
    obtain ⟨_, h⟩ | ⟨_, _, h⟩ | ⟨_, _, h⟩ := seedRule_cases p v s <;> simp [commandRule, h]
  | next _ => obtain ⟨_, h⟩ | ⟨_, h⟩ := nextRule_cases p s <;> simp [commandRule, h]
  | state _ => obtain ⟨_, h⟩ | ⟨_, h⟩ := stateRule_cases s <;> simp [commandRule, h]

/-- What a step is, by the inputs at the edge (30_encoding R66). -/
theorem step_cases (s : State) :
    (s.presented.rst = true ∧ step s = .next s.consume.clear) ∨
    (s.presented.rst = false ∧ s.presented.cmdValid = true ∧
      step s = .next (commandRule hardware (decode s.presented.word) s.consume)) ∨
    (s.presented.rst = false ∧ s.presented.cmdValid = false ∧ step s = .next s.consume.dropResponse) := by
  cases hr : s.presented.rst <;> cases hc : s.presented.cmdValid <;>
    simp [step, hr, hc, exec_eq_commandRule]

/-- The halves of a joined value. -/
theorem loWord_joinWords (hi lo : Word) : loWord (joinWords hi lo) = lo := by
  apply BitVec.eq_of_getLsbD_eq
  intro i h
  simp only [loWord, joinWords, BitVec.getLsbD_extractLsb', BitVec.getLsbD_append]
  simp [h]

theorem hiWord_joinWords (hi lo : Word) : hiWord (joinWords hi lo) = hi := by
  apply BitVec.eq_of_getLsbD_eq
  intro i h
  simp only [hiWord, joinWords, BitVec.getLsbD_extractLsb', BitVec.getLsbD_append]
  simp [h, show ¬ 64 + i < 64 by omega]

/-- Bit `i` of a rotation is bit `(i - k) mod w` of the value (00_scope R10). -/
theorem rotl_getLsbD {w : Nat} (a : BitVec w) (k i : Nat) (hk : k < w) (hi : i < w) :
    (rotl a k).getLsbD i = a.getLsbD ((i + (w - k)) % w) := by
  by_cases h0 : k = 0
  · subst h0; simp [rotl, Nat.mod_eq_of_lt hi]
  · by_cases hik : i < k
    · have hm : (i + (w - k)) % w = w - k + i := by
        rw [Nat.mod_eq_of_lt (by omega)]; omega
      simp [rotl, h0, hik, hm]
    · have hm : (i + (w - k)) % w = i - k := by
        rw [show i + (w - k) = i - k + w by omega, Nat.add_mod_right, Nat.mod_eq_of_lt (by omega)]
      simp [rotl, h0, hik, hi, hm, BitVec.getLsbD_of_ge a (w - k + i) (by omega),
        BitVec.getLsbD_eq_getElem (show i - k < w by omega)]

end Sys2Proof.Machine
end

