-- ==== Sys2Proof/Laws/PerInstr.lean ====
section
/-! SUPPORT. Per-command facts about the encoding (30_encoding R56, R57). -/

namespace Sys2Proof.Laws.WordFields

/-- The encoded word carries the command's opcode in `op` and its operand in `data`, and the command is
well formed (R56, R62). -/
def Statement (i : Instr) : Prop :=
  cwOp (encode i) = i.opcode ∧ cwData (encode i) = i.operand ∧ i.wellFormed = true

/-- The field `op` of an assembled word. -/
theorem cwOp_mkCmdWord (op : BitVec 2) (d : Block) : cwOp (mkCmdWord op d) = op := by
  apply BitVec.eq_of_getLsbD_eq
  intro i h
  simp only [cwOp, mkCmdWord, BitVec.getLsbD_extractLsb', BitVec.getLsbD_append]
  simp [h, show ¬ 128 + i < 128 by omega]

/-- The field `data` of an assembled word. -/
theorem cwData_mkCmdWord (op : BitVec 2) (d : Block) : cwData (mkCmdWord op d) = d := by
  apply BitVec.eq_of_getLsbD_eq
  intro i h
  simp only [cwData, mkCmdWord, BitVec.getLsbD_extractLsb', BitVec.getLsbD_append]
  simp [h]

theorem nop (ignored : Block) : Statement (.nop ignored) :=
  ⟨cwOp_mkCmdWord _ _, cwData_mkCmdWord _ _, rfl⟩

theorem seed (v : Block) : Statement (.seed v) :=
  ⟨cwOp_mkCmdWord _ _, cwData_mkCmdWord _ _, rfl⟩

theorem next (ignored : Block) : Statement (.next ignored) :=
  ⟨cwOp_mkCmdWord _ _, cwData_mkCmdWord _ _, rfl⟩

theorem state (ignored : Block) : Statement (.state ignored) :=
  ⟨cwOp_mkCmdWord _ _, cwData_mkCmdWord _ _, rfl⟩

end Sys2Proof.Laws.WordFields
end

