-- ==== Sys2Proof/Tests/Slice0.lean ====
section
/-! SUPPORT. Tests with results from spec/95_test_vectors and the worked examples of the rules, and for each
statement with hypotheses a witness that meets them all (`witness_…`). -/

namespace Sys2Proof.Tests

open Sys2Proof.Machine

/-- The seeded state of the spec's worked examples. -/
def seeded : State := ⟨0x2a, true, RspReg.reset, []⟩

/-- A state with other contents in the response register. -/
def seededOther : State := ⟨0x2a, true, ⟨true, .notSeeded, 0⟩, [Edge.idle]⟩

/-- An unseeded state with inputs listed. -/
def unseeded (es : List Edge) : State := ⟨0, false, RspReg.reset, es⟩

/-! ### Well-formedness: each check refuses an ill-formed term -/

theorem test_wide_word_refused : wellFormedWord (2 ^ 130) = false := by decide
theorem test_widest_word_accepted : wellFormedWord (2 ^ 130 - 1) = true := by decide
theorem test_wide_immediate_refused : wellFormedImm (2 ^ 128) = false := by decide
theorem test_zero_fallback_refused : ({ hardware with fallbackState := 0 } : Params).wellFormed = false := by
  decide
theorem test_hardware_fallback_accepted : hardware.wellFormed = true := by decide
theorem test_ignored_bits_are_no_assembler_form : (Instr.next 1).assemblerForm = false := by decide

/-! ### Decoding: words written out from R56 and R57, op first -/

theorem test_decode_nop : decode (0b00#2 ++ 0x00000000000000000000000000000000#128) = .nop 0 := by decide
theorem test_decode_seed : decode 0x10000000000000000000000000000002a = .seed 42 := by decide
theorem test_decode_next : decode 0x2000000000000000000000000deadbeef = .next 0xdeadbeef := by decide
theorem test_decode_state : decode 0x300000000000000000000000000000000 = .state 0 := by decide
theorem test_encode_seed_top_bit :
    encode (.seed 0x80000000000000000000000000000000) = 0x180000000000000000000000000000000 := by decide
theorem test_table_word : decodeTableWord 136 0x300000000000000000000000000000000 = some (.state 0) := by
  decide
theorem test_table_word_too_wide : decodeTableWord 136 (2 ^ 131) = none := by decide

/-! ### One command each: V34, and the worked examples of R126 to R129 -/

theorem test_nop_seeded : exec (.nop 7) seeded = .next { seeded with RSP := ⟨true, .ok, 0⟩ } := rfl

theorem test_seed_zero_keeps_the_generator :
    exec (.seed 0) seeded = .next { seeded with RSP := ⟨true, .invalidSeed, 0⟩ } := rfl

/-- V34.8: seeding again replaces the state. -/
theorem test_seed_replaces : exec (.seed 0xffffffffffffffffffffffffffffffff) seeded =
    .next ⟨0xffffffffffffffffffffffffffffffff, true, ⟨true, .ok, 0⟩, []⟩ := rfl

/-- V34.9: `NEXT` with nonzero ignored bits. -/
theorem test_next_worked_example :
    (nextRule hardware seeded).S = 0x00000002a0000000005400000540002a ∧
    (nextRule hardware seeded).response = ⟨.ok, 0x000000000000000000594a80059400d2⟩ ∧
    exec (.next 0xdeadbeef) seeded = .next (nextRule hardware seeded) := by
  refine ⟨by decide, by decide, rfl⟩

theorem test_next_unseeded : exec (.next 0) (unseeded []) =
    .next { unseeded [] with RSP := ⟨true, .notSeeded, 0⟩ } := rfl

theorem test_state_seeded : exec (.state 0) seeded = .next { seeded with RSP := ⟨true, .ok, 0x2a⟩ } := rfl

theorem test_state_unseeded : exec (.state 0) (unseeded []) =
    .next { unseeded [] with RSP := ⟨true, .notSeeded, 0⟩ } := rfl

/-- V35: the same zero seed under `REMAP`. -/
theorem test_seed_zero_remapped : seedRule hardwareRemap 0 seeded = ⟨1, true, ⟨true, .ok, 0⟩, []⟩ := rfl

/-! ### The edge: R66, R170 -/

theorem test_reset_wins_over_a_command :
    step { seeded with host := [⟨true, true, 0b01, 5⟩] } = .next State.reset := rfl

theorem test_idle_edge_drops_the_response :
    step seededOther = .next ⟨0x2a, true, ⟨false, .notSeeded, 0⟩, []⟩ := rfl

theorem test_placed_word_runs_after_reset :
    step (State.reset.withFetchWord 136 0x10000000000000000000000000000002a) =
      .next ⟨0x2a, true, ⟨true, .ok, 0⟩, []⟩ := rfl

/-- The response register's bits: valid, status `NOT_SEEDED`, data 0. -/
theorem test_response_register_bits :
    packRsp seededOther.RSP = 0x600000000000000000000000000000000 ∧
    outPorts seededOther = ⟨true, 0b10, 0, true⟩ := by decide

/-! ### The transition and the combiner: V10, V11, V20 -/

theorem test_transition_shift_drops_the_top_bit :
    transition 0x00000000000000008000000000000000 = 0x00000000080000008001000000000000 := by decide
theorem test_transition_of_two_full_words :
    transition 0x0123456789abcdeffedcba9876543210 = 0xffffffffffffffff6421fdb9752f1357 := by decide
theorem test_transition_inverse :
    transitionInv 0x0123456789abcdeffedcba9876543210 = 0x8bcd8b4020000b49117155b032345d31 := by decide
theorem test_combine_wraps_to_zero : combine 0xfffffffffffffffe0000000000000001 = 0 := by decide
theorem test_combine_rotates_bit_46_to_63 :
    combine 0x00000000000000000000400000000000 = 0x8000400000000000 := by decide
theorem test_combine_preimage : combinePreimageHi 1 0 = 0x0000800000000000 := by decide
theorem test_parity_of_three_ones : parity 0b1011#8 = true ∧ parity 0b1001#8 = false := by decide

/-! ### Matrices, polynomial and the design-time check: V12.3, V44, V50, V52 -/

/-- `ROW_64(A_REF**2)`. -/
theorem test_matrix_square_row :
    Mat.selectRows (aRef.row 64) 0 aRef = 0x00000010000081000008001000008100 := by decide +kernel

theorem test_matrix_has_128_rows : aRef.wf = true := by decide +kernel

/-- Column 64 of `A_REF` is V10.6, here by the product with a unit vector. -/
theorem test_matrix_column :
    aRef.mulVec 0x00000000000000010000000000000000 = 0x00000000100000000000000000200001 := by decide +kernel

theorem test_analog_matrix : Mat.ofFunction analog16 =
    [0x0141, 0x0282, 0x0405, 0x080a, 0x1014, 0x2129, 0x4252, 0x84a4,
      0x0808, 0x1010, 0x2020, 0x4040, 0x8080, 0x0101, 0x0202, 0x0404] := by decide +kernel

theorem test_analog_trace : analog16 0xbeef = 0x2ace ∧ analog16Inv 0x0001 = 0x4040 := by decide

/-- V52: the whole check, rank included, on the 16-bit analog. -/
theorem test_check_accepts_the_analog :
    Verifier.check 65535 [3, 5, 17, 257] (Mat.ofFunction analog16) = true := by decide +kernel

/-- A matrix with a repeated row has not full rank. -/
theorem test_rank_of_a_singular_matrix :
    Verifier.rank ((Mat.ofFunction analog16).set 8 (0x1010 : BitVec 16)) = 15 := by decide +kernel

theorem test_flip_entry : (aRef.flip 127 5).row 127 = 0x00000008000000000000000800000020 := by
  decide +kernel

/-- `x * x**127 mod P_REF` is `P_REF` without its leading term (R91). -/
theorem test_polynomial_product :
    polyMul polyX 0x80000000000000000000000000000000 = 0x0031bcf2f855d6e58dae70779760b081 := by decide +kernel

/-- V44 (a): `P_REF` annihilates 42. -/
theorem test_polynomial_annihilates_42 : polyApply pRef transition 42 = 0 := by decide +kernel

/-! ### Assembler text: R64 -/

theorem test_parse_seed_hex :
    (parseAsmLine "SEED 0x2a ; forty-two".toList).toOption = some (some (.seed 42)) := by decide
theorem test_parse_comment_only : (parseAsmLine "; nothing".toList).toOption = some none := by decide
theorem test_parse_refuses_an_unknown_line : (parseAsmLine "SKIP 3".toList).toOption = none := by decide

/-! ### Witnesses: the hypotheses of the statements are met -/

theorem witness_OpcodeMapSelectsTheCommand :
    (0x000000000000000000000000deadbeef : CmdWord) &&& opcodeMask = (0 : CmdWord) <<< 128 ∧
    (0x1ffffffffffffffffffffffffffffffff : CmdWord) &&& opcodeMask = (1 : CmdWord) <<< 128 ∧
    (0x200000000000000000000000000000001 : CmdWord) &&& opcodeMask = (2 : CmdWord) <<< 128 ∧
    (0x3ffffffffffffffffffffffffffffffff : CmdWord) &&& opcodeMask = (3 : CmdWord) <<< 128 := by decide

theorem witness_NoCommandWordIsIllegal : 2 ^ 130 - 1 < 2 ^ 130 := by decide

theorem witness_OnlySeedUsesItsOperand : (0x80000000000000000000000000000000 : Block) ≠ 0 := by decide

theorem witness_AssemblerLinesMeanTheirCommands :
    2 ^ 128 - 1 < 2 ^ 128 ∧ 2 ^ 128 ≤ 2 ^ 128 := by decide

theorem witness_StepRunsThePresentedCommand :
    (unseeded [⟨false, true, 0b01, 42⟩, Edge.reset]).host = ⟨false, true, 0b01, 42⟩ :: [Edge.reset] ∧
    decode (mkCmdWord 0b01 42) = .seed 42 := by decide

theorem witness_ClockEdgeDoesOneOfThreeThings :
    (unseeded [Edge.reset]).host = Edge.reset :: [] ∧ Edge.reset.rst = true ∧
    (unseeded [Edge.command 0]).host = Edge.command 0 :: [] ∧ (Edge.command 0).rst = false ∧
    (Edge.command 0).cmdValid = true ∧
    (unseeded [Edge.idle]).host = Edge.idle :: [] ∧ Edge.idle.rst = false ∧ Edge.idle.cmdValid = false ∧
    exec (.seed 1) { unseeded [Edge.idle] with host := Edge.command (encode (.next 0)) :: [] } =
      .next ⟨1, true, ⟨true, .ok, 0⟩, [Edge.command (encode (.next 0))]⟩ :=
  ⟨rfl, rfl, rfl, rfl, rfl, rfl, rfl, rfl, rfl⟩

theorem witness_PlacedTableWordRunsNext : 2 ^ 130 ≤ 2 ^ 130 := by decide

theorem witness_CommandDependsOnStateAndWordOnly :
    seeded.S = seededOther.S ∧ seeded.VALID = seededOther.VALID ∧ seeded.RSP ≠ seededOther.RSP ∧
    (commandRule hardware (.seed 0) seeded).RSP.status ≠ .ok := by decide

theorem witness_ResetIsTheOnlyWayBackToUnseeded :
    [Edge.reset, ⟨true, true, 0b10, 1⟩] ≠ [] ∧
    (∀ e ∈ [Edge.reset, ⟨true, true, 0b10, 1⟩], e.rst = true) ∧
    step { seeded with host := [Edge.reset] } = .next State.reset ∧
    seeded.VALID = true ∧ State.reset.VALID = false := ⟨by decide, by decide, rfl, rfl, rfl⟩

theorem witness_ResetForgetsTheEarlierGenerator :
    ({ seeded with host := [Edge.reset] } : State).host = Edge.reset :: [] ∧
    (unseeded [⟨true, true, 0b10, 1⟩]).host = ⟨true, true, 0b10, 1⟩ :: [] ∧ Edge.reset.rst = true := by decide

theorem witness_NopAnswersOkAndChangesNothing : seeded.S = 0x2a ∧ seeded.VALID = true := by decide

theorem witness_SeedStoresRefusesOrRemaps :
    (0xffffffffffffffffffffffffffffffff : Block) ≠ 0 ∧ hardware.zeroSeedPolicy = .reject ∧
    hardwareRemap.zeroSeedPolicy = .remap ∧ hardwareRemap.wellFormed = true ∧
    (unseeded []).S = 0 ∧ (unseeded []).VALID = false := by decide

theorem witness_NextAdvancesThenOutputs :
    seeded.VALID = true ∧ seeded.S = 0x2a ∧ (unseeded []).VALID = false ∧ seeded.Inv ∧
    exec (.next 0) seeded = .next (nextRule hardware seeded) := ⟨rfl, rfl, rfl, by decide, rfl⟩

theorem witness_StateAnswersTheRawState :
    seeded.VALID = true ∧ seeded.Inv ∧ (unseeded []).VALID = false ∧ (stateRule seeded).RSP.status = .ok ∧
    (⟨0x00000002a0000000005400000540002a, true, RspReg.reset, []⟩ : State).S =
      0x00000002a0000000005400000540002a ∧
    (⟨0x00000002a0000000005400000540002a, true, RspReg.reset, []⟩ : State).VALID = true := by decide

theorem witness_CommandsTouchOnlyTheirElements :
    exec (.nop 0) seeded = .next (nopRule seeded) ∧ exec (.seed 0) seeded = .next (seedRule hardware 0 seeded) ∧
    exec (.seed 0) (unseeded []) = .next (seedRule hardware 0 (unseeded [])) ∧
    exec (.next 0) (unseeded []) = .next (nextRule hardware (unseeded [])) ∧ (unseeded []).VALID = false ∧
    exec (.state 0) seeded = .next (stateRule seeded) ∧
    exec (.nop 0) (unseeded []) = .next (nopRule (unseeded [])) := ⟨rfl, rfl, rfl, rfl, rfl, rfl, rfl⟩

theorem witness_FailureConditionsAreComplete :
    (commandRule hardware (.seed 0) (unseeded [])).RSP.status = .invalidSeed ∧
    (commandRule hardware (.next 0) (unseeded [])).RSP.status = .notSeeded ∧
    (commandRule hardware (.state 0) (unseeded [])).RSP.status ≠ .ok := by decide

theorem witness_FailureLeavesNoTrace :
    (commandRule hardware (.seed 0) seeded).RSP.status ≠ .ok := by decide

theorem witness_RemapNeverAnswersInvalidSeed : hardwareRemap.zeroSeedPolicy = .remap := rfl

theorem witness_ValidIsSetByStoringSeedsOnly :
    step (unseeded [Edge.command (encode (.seed 1))]) = .next ⟨1, true, ⟨true, .ok, 0⟩, []⟩ ∧
    (unseeded []).VALID = false := ⟨rfl, rfl⟩

theorem witness_ResponseWordsReadBack :
    unpackResponse (packResponse ⟨.notSeeded, 5⟩) = some ⟨.notSeeded, 5⟩ := by decide

theorem witness_ResponseDataTable :
    (nextRule hardware seeded).RSP.status = .ok ∧ (stateRule seeded).RSP.status = .ok ∧
    (commandRule hardware (.next 0) (unseeded [])).RSP.status ≠ .ok := by decide

theorem witness_EveryStepKeepsTheInvariant : seeded.Inv ∧ seededOther.Inv := by decide

/-- Parameters with the identity as `f`: no legal `A`, but the premise is met. -/
theorem witness_NonzeroKeepingParametersKeepTheInvariant :
    (∀ x : Block, x ≠ 0 → ({ hardware with f := id } : Params).f x ≠ 0) ∧
    ({ hardware with f := id } : Params).wellFormed = true ∧ seeded.Inv := ⟨fun _ h => h, by decide, by decide⟩

theorem witness_TransitionBitFormulas : 0 < 64 ∧ 20 < 64 ∧ 21 < 64 ∧ 63 < 64 := by decide

theorem witness_TransitionIsTheMatrixProduct : 127 < 128 := by decide

theorem witness_MatrixPowersAreIterates :
    Mat.wf ([0b11, 0b01] : Mat 2) = true ∧ Mat.wf (Mat.identity 2) = true := by decide

theorem witness_TransitionFixesNoNonzeroState : (1 : Block) ≠ 0 := by decide

theorem witness_EveryNonzeroStateLiesOnOneCycle : (1 : Block) ≠ 0 ∧ (0x2a : Block) ≠ 0 := by decide

/-- The matrix of multiplication by `x` in the field of four elements, of order 3. -/
theorem witness_CheckWithAllPrimesProvesTheOrder :
    Mat.wf ([0b11, 0b01] : Mat 2) = true ∧ 0 < 3 ∧ (∀ q, Nat.Prime q → q ∣ 3 → q ∈ [3]) ∧
    Verifier.check 3 [3] ([0b11, 0b01] : Mat 2) = true := by
  refine ⟨by decide, by decide, fun q hq hd => ?_, by decide +kernel⟩
  rcases (Nat.dvd_prime Nat.prime_three).1 hd with h | h
  · exact absurd (h ▸ hq) Nat.not_prime_one
  · simp [h]

theorem witness_SmallModelHasOneCycle :
    (1 : BitVec 16) ≠ 0 ∧ 1 ∈ [1, 2, 3] ∧ 2 ∈ [1, 2, 3] ∧ 3 ∈ [1, 2, 3] := by decide

theorem witness_NoOutputBitIsAffine : 63 < 64 := by decide

theorem witness_OutputSequenceAfterSeed :
    seeded.VALID = true ∧
    (∀ i ∈ [Instr.next 0, .seed 0, .nop 0, .state 0, .next 0], storesSeed hardware i = false) := by decide

theorem witness_SavedStateResumesTheSequence :
    seeded.Inv ∧ (stateRule seeded).response = ⟨.ok, 0x2a⟩ := by decide

theorem witness_NothingWorksBeforeTheFirstSeed :
    (unseeded []).VALID = false ∧
    (∀ i ∈ [Instr.next 0, .seed 0, .state 0], storesSeed hardware i = false) ∧
    storesSeed hardware (.seed 1) = true ∧ storesSeed hardwareRemap (.seed 0) = true ∧
    hardware.zeroSeedPolicy = .reject ∧ hardwareRemap.zeroSeedPolicy = .remap := by decide

theorem witness_UnseededStateIsUnobservable : (unseeded []).VALID = false := rfl

theorem witness_ReadingIsPureAndDrawingIsNot :
    exec (.state 0) seeded = .next (stateRule seeded) ∧
    exec (.state 1) (stateRule seeded) = .next (stateRule (stateRule seeded)) ∧ seeded.VALID = true ∧
    exec (.next 0) seeded = .next (nextRule hardware seeded) ∧
    exec (.next 1) (nextRule hardware seeded) = .next (nextRule hardware (nextRule hardware seeded)) ∧
    exec (.nop 0) seeded = .next (nopRule seeded) ∧
    exec (.state 1) (nopRule seeded) = .next (stateRule (nopRule seeded)) :=
  ⟨rfl, rfl, rfl, rfl, rfl, rfl, rfl⟩

theorem witness_SeededRunsAreSafe :
    (1 : Block) ≠ 0 ∧ ∀ i ∈ [Instr.next 0, .seed 5, .state 0], i ≠ .seed 0 := by decide

end Sys2Proof.Tests
end

/-! SUPPORT. The proofs of the family 10_state: first what every later proof cites (the value of `VALID` after
a command, the commands in an unseeded block, the transition's left inverse), then the guard invariant, then
the obligations. -/

namespace Sys2Proof.Machine

/-! ### The commands -/

/-- A command's execution answers its rule's state and no other (42_commands R125). -/
theorem exec_eq_next_iff {i : Instr} {s t : State} :
    exec i s = .next t ↔ commandRule hardware i s = t := by
  rw [exec_eq_commandRule, Host.Outcome.next.injEq]

/-- An unseeded `NEXT` is refused (R128). -/
theorem nextRule_of_unseeded (p : Params) {s : State} (h : s.VALID = false) :
    nextRule p s = s.raise .notSeeded := by
  simp [nextRule, h]

/-- An unseeded `STATE` is refused (R129). -/
theorem stateRule_of_unseeded {s : State} (h : s.VALID = false) : stateRule s = s.raise .notSeeded := by
  simp [stateRule, h]

/-- The two kinds of `SEED` that store: a nonzero operand, or the policy `REMAP` (R127). -/
theorem storesSeed_seed_iff {p : Params} {v : Block} :
    storesSeed p (.seed v) = true ↔ v ≠ 0 ∨ p.zeroSeedPolicy = .remap := by
  simp [storesSeed, zeroDetect]

/-- A `SEED` that stores no state is refused (R127). -/
theorem seedRule_of_not_storesSeed {p : Params} {v : Block} (h : storesSeed p (.seed v) = false)
    (s : State) : seedRule p v s = s.raise .invalidSeed := by
  rw [← Bool.not_eq_true, storesSeed_seed_iff] at h
  obtain ⟨hv, _⟩ | ⟨_, _, hs⟩ | ⟨_, hp, _⟩ := seedRule_cases p v s
  · exact absurd (.inl hv) h
  · exact hs
  · exact absurd (.inr hp) h

/-- A `SEED` that stores a state stores one and the same value in every state (R127). -/
theorem exists_seedRule_of_storesSeed {p : Params} {v : Block} (h : storesSeed p (.seed v) = true) :
    ∃ w, ∀ s, seedRule p v s = (s.store w).respond .ok 0 := by
  by_cases hv : v = 0
  · have hp : p.zeroSeedPolicy = .remap := (storesSeed_seed_iff.mp h).resolve_left fun hne => hne hv
    exact ⟨p.fallbackState, fun s => by simp [seedRule, zeroDetect, hv, hp]⟩
  · exact ⟨v, fun s => if_neg fun h0 => hv (eq_of_beq h0)⟩

/-- `VALID` after a command: a storing `SEED` sets it and no command clears it (10_state R24). -/
@[simp] theorem commandRule_VALID (p : Params) (i : Instr) (s : State) :
    (commandRule p i s).VALID = (s.VALID || storesSeed p i) := by
  cases i with
  | nop _ => simp [commandRule, nopRule, storesSeed]
  | seed v =>
    cases h : storesSeed p (.seed v)
    · simp [commandRule, seedRule_of_not_storesSeed h]
    · obtain ⟨w, hw⟩ := exists_seedRule_of_storesSeed h
      simp [commandRule, hw]
  | next _ => obtain ⟨_, h⟩ | ⟨_, h⟩ := nextRule_cases p s <;> simp [commandRule, storesSeed, h]
  | state _ => obtain ⟨_, h⟩ | ⟨_, h⟩ := stateRule_cases s <;> simp [commandRule, storesSeed, h]

/-- The answer of a `SEED` is the same in every state (R31). -/
theorem seedRule_RSP_eq (p : Params) (v : Block) (s s' : State) :
    (seedRule p v s).RSP = (seedRule p v s').RSP := by
  cases h : storesSeed p (.seed v)
  · simp [seedRule_of_not_storesSeed h]
  · obtain ⟨w, hw⟩ := exists_seedRule_of_storesSeed h
    simp [hw]

/-- `STATE` does not write the state (R129). -/
@[simp] theorem stateRule_S (s : State) : (stateRule s).S = s.S := by
  obtain ⟨_, h⟩ | ⟨_, h⟩ := stateRule_cases s <;> simp [h]

/-- On an unseeded block a command either hides what `S` held, by storing a seed, or carries it along
unread (10_state R30). -/
theorem commandRule_of_unseeded (p : Params) (i : Instr) {s : State} (x : Block) (h : s.VALID = false) :
    commandRule p i { s with S := x } = commandRule p i s ∨
    (commandRule p i s).VALID = false ∧
      commandRule p i { s with S := x } = { commandRule p i s with S := x } := by
  have hx : ({ s with S := x } : State).VALID = false := h
  cases i with
  | nop _ => exact .inr ⟨h, rfl⟩
  | seed v =>
    cases hv : storesSeed p (.seed v)
    · right
      simp only [commandRule, seedRule_of_not_storesSeed hv]
      exact ⟨h, rfl⟩
    · obtain ⟨w, hw⟩ := exists_seedRule_of_storesSeed hv
      left
      simp only [commandRule, hw]
      rfl
  | next _ =>
    right
    simp only [commandRule, nextRule_of_unseeded p h, nextRule_of_unseeded p hx]
    exact ⟨h, rfl⟩
  | state _ =>
    right
    simp only [commandRule, stateRule_of_unseeded h, stateRule_of_unseeded hx]
    exact ⟨h, rfl⟩

/-! ### The transition takes no nonzero state to zero -/

/-- A right rotation undoes the left one (00_scope R10). -/
theorem rotr_rotl {w : Nat} (a : BitVec w) {k : Nat} (hk : k < w) : rotr (rotl a k) k = a := by
  apply BitVec.eq_of_getLsbD_eq
  intro i hi
  have hw : 0 < w := by omega
  rw [rotr, rotl_getLsbD _ _ _ (Nat.mod_lt _ hw) hi, rotl_getLsbD _ _ _ hk (Nat.mod_lt _ hw)]
  congr 1
  by_cases h0 : k = 0
  · simp [h0, Nat.mod_eq_of_lt hi]
  · rw [Nat.mod_eq_of_lt (show w - k < w by omega), show w - (w - k) = k by omega, Nat.mod_add_mod,
      show i + k + (w - k) = i + w by omega, Nat.add_mod_right, Nat.mod_eq_of_lt hi]

/-- A value is its two halves (R9). -/
@[simp] theorem joinWords_hiWord_loWord (x : Block) : joinWords (hiWord x) (loWord x) = x := by
  apply BitVec.eq_of_getLsbD_eq
  intro i hi
  simp only [joinWords, hiWord, loWord, BitVec.getLsbD_append, BitVec.getLsbD_extractLsb']
  by_cases h : i < 64
  · simp [h]
  · simp [h, show i - 64 < 64 by omega, show 64 + (i - 64) = i by omega]

/-- `f_inv` undoes `f` (40_transition R88). -/
theorem transitionInv_transition (x : Block) : transitionInv (transition x) = x := by
  have hC (a : Word) : rotr (rotl a Config.rotC) Config.rotC = a := rotr_rotl a (by decide)
  have hA (a : Word) : rotr (rotl a Config.rotA) Config.rotA = a := rotr_rotl a (by decide)
  have cancel (a t u : Word) : a ^^^ t ^^^ u ^^^ t ^^^ u = a := by
    rw [BitVec.xor_assoc a t u, BitVec.xor_assoc, BitVec.xor_assoc, BitVec.xor_self, BitVec.xor_zero]
  simp [transitionInv, transition, loWord_joinWords, hiWord_joinWords, hC, hA, cancel]

/-- `f` takes no nonzero state to 0 (R89 (a)). -/
theorem transition_ne_zero {x : Block} (hx : x ≠ 0) : transition x ≠ 0 := by
  intro h
  have h0 : transitionInv 0 = 0 := by decide
  exact hx (by rw [← transitionInv_transition x, h, h0])

/-! ### The guard invariant -/

/-- The reset state meets the invariant: unseeded, 0, and no failure in the response register. -/
theorem State.reset_inv : State.reset.Inv := ⟨by decide, fun h => absurd rfl h⟩

/-- A refusal keeps the guard and answers data 0. -/
theorem State.raise_inv {s : State} (h : s.GuardInv) (st : Status) : (s.raise st).Inv := ⟨h, fun _ => rfl⟩

/-- An `OK` answer keeps the guard, whatever its data. -/
theorem State.respond_ok_inv {s : State} (h : s.GuardInv) (d : Block) : (s.respond .ok d).Inv :=
  ⟨h, fun hst => absurd rfl hst⟩

/-- Storing a nonzero value establishes the guard. -/
theorem State.store_guardInv {v : Block} (hv : v ≠ 0) (s : State) : (s.store v).GuardInv :=
  ⟨fun _ => hv, fun _ => rfl⟩

/-- Advancing a seeded block to a nonzero state keeps the guard. -/
theorem State.advanceTo_guardInv {n : Block} (hn : n ≠ 0) {s : State} (hV : s.VALID = true) :
    (s.advanceTo n).GuardInv :=
  ⟨fun _ => hn, fun _ => hV⟩

/-- Whatever stood in the response register, every command takes a state with the guard to one with the whole
invariant (R22 over the parameters of R7). -/
theorem commandRule_inv {p : Params} (hf : ∀ x : Block, x ≠ 0 → p.f x ≠ 0) (hp : p.wellFormed = true)
    (i : Instr) {s : State} (h : s.GuardInv) : (commandRule p i s).Inv := by
  cases i with
  | nop _ => exact State.respond_ok_inv h 0
  | seed v =>
    rw [commandRule]
    obtain ⟨hv, hs⟩ | ⟨_, _, hs⟩ | ⟨_, _, hs⟩ := seedRule_cases p v s <;> rw [hs]
    · exact State.respond_ok_inv (State.store_guardInv hv s) 0
    · exact State.raise_inv h _
    · have hfb : p.fallbackState ≠ 0 := by simpa [Params.wellFormed] using hp
      exact State.respond_ok_inv (State.store_guardInv hfb s) 0
  | next _ =>
    rw [commandRule]
    obtain ⟨hV, hs⟩ | ⟨_, hs⟩ := nextRule_cases p s <;> rw [hs]
    · exact State.respond_ok_inv (State.advanceTo_guardInv (hf _ (h.mp hV)) hV) _
    · exact State.raise_inv h _
  | state _ =>
    rw [commandRule]
    obtain ⟨_, hs⟩ | ⟨_, hs⟩ := stateRule_cases s <;> rw [hs]
    · exact State.respond_ok_inv h _
    · exact State.raise_inv h _

/-- A property that every command keeps holds after every list of commands. -/
theorem runCommands_induct {p : Params} {P : State → Prop}
    (hstep : ∀ (i : Instr) (s : State), P s → P (commandRule p i s)) (is : List Instr) {s : State}
    (h : P s) : P (runCommands p is s).2 := by
  induction is generalizing s with
  | nil => exact h
  | cons i is ih => exact ih (hstep i s h)

/-! ### The obligations -/

/-- Settles O26: an edge resets, runs a command of this hardware, whose `f` keeps nonzero states nonzero, or
only drops `RSP.valid`. -/
theorem everyStepKeepsTheInvariant : Obligations.EveryStepKeepsTheInvariant := by
  intro s hs
  obtain ⟨hguard, hrsp⟩ := hs
  obtain ⟨_, h⟩ | ⟨_, _, h⟩ | ⟨_, _, h⟩ := step_cases s
  · exact ⟨_, h, State.reset_inv⟩
  · exact ⟨_, h, commandRule_inv (fun _ => transition_ne_zero) (by decide) _ hguard⟩
  · exact ⟨_, h, hguard, hrsp⟩

/-- Settles O22: by what an edge can do (`step_cases`) and the value of `VALID` after a command. -/
theorem validIsSetByStoringSeedsOnly : Obligations.ValidIsSetByStoringSeedsOnly := by
  refine ⟨fun s t h => ?_, fun d s hV => ?_, fun _ => rfl⟩
  · obtain ⟨hr, hs⟩ | ⟨hr, hc, hs⟩ | ⟨hr, hc, hs⟩ := step_cases s <;>
      obtain rfl := Host.Outcome.next.inj (hs.symm.trans h)
    · simp [hr]
    · simp [hr, hc]
    · simp [hr, hc]
  · rw [exec_eq_commandRule, exec_eq_commandRule, commandRule, commandRule, nextRule_of_unseeded _ hV,
      stateRule_of_unseeded hV]
    exact ⟨rfl, rfl⟩

/-- Settles O27: every command keeps the invariant, and reset, which meets it, starts every run. -/
theorem nonzeroKeepingParametersKeepTheInvariant : Obligations.NonzeroKeepingParametersKeepTheInvariant := by
  intro p hf hp
  have keeps (i : Instr) (s : State) (hs : s.Inv) : (commandRule p i s).Inv := commandRule_inv hf hp i hs.1
  exact ⟨keeps, fun is => runCommands_induct keeps is State.reset_inv⟩

/-- Settles O53, by induction on the commands: until a seed is stored the two states differ in `S` alone,
after it they are equal. -/
theorem unseededStateIsUnobservable : Obligations.UnseededStateIsUnobservable := by
  intro p cs s x hV
  induction cs generalizing s with
  | nil => rfl
  | cons i is ih =>
    simp only [runCommands]
    obtain h | ⟨hV', h⟩ := commandRule_of_unseeded p i x hV <;> rw [h]
    rw [ih _ hV']
    rfl

/-- Settles O11: the reset values by evaluation, the refusals because the reset state is unseeded. -/
theorem resetLeavesTheSpecifiedValues : Obligations.ResetLeavesTheSpecifiedValues := by
  have hV : State.reset.VALID = false := rfl
  refine ⟨rfl, hV, rfl, fun d => ⟨_, exec_eq_commandRule _ _, ?_⟩, fun d => ⟨_, exec_eq_commandRule _ _, ?_⟩⟩
  · rw [commandRule, nextRule_of_unseeded _ hV]
    rfl
  · rw [commandRule, stateRule_of_unseeded hV]
    rfl

/-- Settles O18: row by row of the access table, from the frame lemmas of the command rules. -/
theorem commandsTouchOnlyTheirElements : Obligations.CommandsTouchOnlyTheirElements := by
  unfold Obligations.CommandsTouchOnlyTheirElements
  simp only [exec_eq_next_iff]
  refine ⟨?nop, ?seed, ?next, ?state, ?seedAnswer, ?nopAnswer⟩
  case nop =>
    rintro d s _ rfl
    exact ⟨rfl, rfl, rfl⟩
  case seed =>
    rintro v s _ rfl
    refine ⟨commandRule_host _ _ _, ?_⟩
    rintro rfl
    exact ⟨rfl, rfl⟩
  case next =>
    rintro d s _ rfl
    refine ⟨by simp [storesSeed], commandRule_host _ _ _, fun hV => ?_⟩
    rw [commandRule, nextRule_of_unseeded _ hV, State.raise_S]
  case state =>
    rintro d s _ rfl
    exact ⟨stateRule_S s, by simp [storesSeed], commandRule_host _ _ _⟩
  case seedAnswer =>
    rintro v s s' _ _ rfl rfl
    exact seedRule_RSP_eq _ v s s'
  case nopAnswer =>
    rintro d s s' _ _ rfl rfl
    rfl

/-- Settles O25. -/
theorem resetMeetsTheInvariant : Obligations.ResetMeetsTheInvariant := State.reset_inv

end Sys2Proof.Machine

/-! SUPPORT. The proofs of the family 20_memory: how the clocked block runs a list of commands (20_memory
R48), and what reading and drawing do to a later read (R47). -/

namespace Sys2Proof.Machine

open Sys2Proof.Laws.WordFields (cwOp_mkCmdWord cwData_mkCmdWord)

/-! ### One clock edge that presents a command -/

/-- The decoder reads back the command that was encoded, ignored bits included (30_encoding R56, R57). -/
@[simp] theorem decode_encode (i : Instr) : decode (encode i) = i := by
  rw [decode, encode, cwOp_mkCmdWord, cwData_mkCmdWord]
  cases i <;> simp [decodeFields, Instr.opcode, Instr.operand]

/-- A command does not read what the host will present (10_state R25). -/
theorem commandRule_with_host (p : Params) (i : Instr) (s : State) (es : List Edge) :
    commandRule p i { s with host := es } = { commandRule p i s with host := es } := by
  cases i with
  | nop _ => rfl
  | seed v =>
    cases h : storesSeed p (.seed v)
    · simp only [commandRule, seedRule_of_not_storesSeed h]
      rfl
    · obtain ⟨w, hw⟩ := exists_seedRule_of_storesSeed h
      simp only [commandRule, hw]
      rfl
  | next _ =>
    simp only [commandRule, nextRule]
    split <;> rfl
  | state _ =>
    simp only [commandRule, stateRule]
    split <;> rfl

/-- The edge that presents a command does its rule, and the next inputs come up (30_encoding R66). -/
theorem step_of_command (i : Instr) (es : List Edge) (s : State) :
    step { s with host := Edge.command (encode i) :: es } =
      .next { commandRule hardware i s with host := es } :=
  calc step { s with host := Edge.command (encode i) :: es }
    _ = exec (decode (Edge.command (encode i)).word) { s with host := es } := rfl
    _ = .next { commandRule hardware i s with host := es } := by
      rw [Edge.word_command, decode_encode, exec_eq_commandRule, commandRule_with_host]

/-! ### Runs -/

/-- A run goes on from the state after its first step. -/
theorem core_run_succ_of_step {s t : State} (h : step s = .next t) (k : Nat) :
    core.run (k + 1) s = core.run k t := by
  have hcore : core.step s = .next t := h
  simp only [Host.Core.run, hcore]

/-- As many edges as commands do the commands' rules from left to right (R48, 70_reset R178). -/
theorem core_run_commandEdges (cs : List Instr) (rest : List Edge) (s : State) :
    core.run cs.length { s with host := commandEdges cs ++ rest } =
      .next { (runCommands hardware cs s).2 with host := rest } := by
  induction cs generalizing s with
  | nil => rfl
  | cons i cs ih =>
    have hstep := step_of_command i (commandEdges cs ++ rest) s
    exact (core_run_succ_of_step hstep cs.length).trans (ih (commandRule hardware i s))

/-- A list of commands appended to another runs from the state the first one left (R48). -/
theorem runCommands_append (p : Params) (cs ds : List Instr) (s : State) :
    runCommands p (cs ++ ds) s =
      ((runCommands p cs s).1 ++ (runCommands p ds (runCommands p cs s).2).1,
        (runCommands p ds (runCommands p cs s).2).2) := by
  induction cs generalizing s with
  | nil => rfl
  | cons i cs ih => simp only [List.cons_append, runCommands, ih]

/-! ### Reading and drawing -/

/-- A `STATE` sees nothing of the response before it: its outcome depends on the generator alone (R129). -/
@[simp] theorem stateRule_respond (s : State) (st : Status) (d : Block) :
    stateRule (s.respond st d) = stateRule s := by
  obtain ⟨hV, h⟩ | ⟨hV, h⟩ := stateRule_cases s <;> rw [h]
  · exact if_pos hV
  · exact stateRule_of_unseeded hV

/-- A second `STATE` changes nothing (R47). -/
theorem stateRule_stateRule (s : State) : stateRule (stateRule s) = stateRule s := by
  obtain ⟨_, h⟩ | ⟨_, h⟩ := stateRule_cases s <;>
    exact (congrArg stateRule h).trans (stateRule_respond s _ _)

/-- A seeded `NEXT` advances and answers the output of the new state (R128). -/
theorem nextRule_of_seeded (p : Params) {s : State} (h : s.VALID = true) :
    nextRule p s = (s.advanceTo (p.f s.S)).respond .ok (zextOutput (p.g (p.f s.S))) :=
  if_pos h

/-! ### The obligations -/

/-- Settles O49: each half by induction on the list of commands. -/
theorem clockedRunIsTheFoldOfTheRules : Obligations.ClockedRunIsTheFoldOfTheRules :=
  ⟨core_run_commandEdges, fun p cs i => runCommands_append p cs [i]⟩

/-- Settles O54: `STATE` is idempotent and sees no earlier response, and a seeded `NEXT` leaves the block
seeded. -/
theorem readingIsPureAndDrawingIsNot : Obligations.ReadingIsPureAndDrawingIsNot := by
  unfold Obligations.ReadingIsPureAndDrawingIsNot
  simp only [exec_eq_next_iff]
  refine ⟨?stateTwice, ?nextTwice, ?nopFirst⟩
  case stateTwice =>
    rintro d e s _ _ rfl rfl
    refine ⟨congrArg State.RSP (stateRule_stateRule s), ?_, ?_⟩
    · simp [commandRule]
    · simp [storesSeed]
  case nextTwice =>
    rintro d e s _ _ hV rfl rfl
    have hV' : (nextRule hardware s).VALID = true := by simp [nextRule_of_seeded hardware hV, hV]
    simp only [commandRule]
    rw [nextRule_of_seeded hardware hV', nextRule_of_seeded hardware hV]
    exact ⟨rfl, rfl⟩
  case nopFirst =>
    rintro d e s _ _ rfl rfl
    exact (stateRule_respond s .ok 0).symm

end Sys2Proof.Machine

/-! SUPPORT. The proofs of the family 30_encoding: the command and response words as two fields (R56 to R59),
the decoder on numbers and table words (R62), the assembler's edges (R64), what a step does with the edge at
the head of the host's list (R66), and the data of every response (R61); then the obligations. -/

namespace Sys2Proof.Machine

open Sys2Proof.Laws.WordFields (cwOp_mkCmdWord cwData_mkCmdWord)

/-! ### The command word as two fields -/

/-- A command word is its two fields (R56). -/
@[simp] theorem mkCmdWord_cwOp_cwData (cw : CmdWord) : mkCmdWord (cwOp cw) (cwData cw) = cw :=
  (BitVec.extractLsb'_append_extractLsb'_eq_extractLsb' (Nat.zero_add 128).symm).trans
    BitVec.extractLsb'_eq_self

/-- There are four opcodes (R57). -/
theorem opcode_cases (op : BitVec 2) : op = 0b00 ∨ op = 0b01 ∨ op = 0b10 ∨ op = 0b11 := by
  revert op
  decide

/-- The selected command's fields are those it was selected by: opcode and operand lose nothing (R57). -/
theorem mkCmdWord_of_decodeFields (op : BitVec 2) (d : Block) :
    mkCmdWord (decodeFields op d).opcode (decodeFields op d).operand = mkCmdWord op d := by
  obtain rfl | rfl | rfl | rfl := opcode_cases op <;> rfl

/-- Every word is the encoding of the command it decodes to, ignored bits included (R56, R62). -/
@[simp] theorem encode_decode (cw : CmdWord) : encode (decode cw) = cw := by
  rw [encode, decode, mkCmdWord_of_decodeFields, mkCmdWord_cwOp_cwData]

/-- The mask of the opcode map keeps the field `op` and clears the operand (R57). -/
theorem and_opcodeMask (cw : CmdWord) : cw &&& opcodeMask = mkCmdWord (cwOp cw) 0 := by
  have hmask : opcodeMask = (BitVec.allOnes 2 ++ 0#128 : CmdWord) := by decide
  conv => lhs; rw [← mkCmdWord_cwOp_cwData cw, mkCmdWord, hmask, BitVec.and_append]
  rw [BitVec.and_allOnes, BitVec.and_zero]
  rfl

/-- Matching a word against a row of the opcode map is comparing its opcode (R57). -/
theorem and_opcodeMask_eq_iff {cw : CmdWord} {op : BitVec 2} :
    cw &&& opcodeMask = mkCmdWord op 0 ↔ cwOp cw = op := by
  rw [and_opcodeMask]
  refine ⟨fun h => ?_, fun h => by rw [h]⟩
  simpa [cwOp_mkCmdWord] using congrArg cwOp h

/-- A word of known opcode decodes to that opcode's command over its operand bits (R57). -/
theorem decode_of_cwOp {cw : CmdWord} {op : BitVec 2} (h : cwOp cw = op) :
    decode cw = decodeFields op (cwData cw) := by
  rw [decode, h]

/-! ### Numbers and table words -/

/-- A number below `2^130` is a command (R62). -/
theorem decodeNat_of_lt {n : Nat} (h : n < 2 ^ 130) : decodeNat n = .ok (decode (BitVec.ofNat 130 n)) :=
  if_pos (decide_eq_true h)

/-- A number of more than 130 bits is refused by name (log 7). -/
theorem decodeNat_of_ge {n : Nat} (h : 2 ^ 130 ≤ n) : decodeNat n = .error .widerThanCommandWord :=
  if_neg fun hwf => Nat.not_lt.mpr h (of_decide_eq_true hwf)

/-- A command word fits in the table's 17 bytes (log 7). -/
@[simp] theorem tableWord_toNat (cw : CmdWord) : tableWord 136 cw.toNat = cw.toNat :=
  BitVec.toNat_mod_cancel_of_lt (by decide)

/-- The table's reading of a command word is the decoder's (log 7). -/
theorem decodeTableWord_toNat (cw : CmdWord) : decodeTableWord 136 cw.toNat = some (decode cw) := by
  rw [decodeTableWord, tableWord_toNat, decodeNat_of_lt cw.isLt, BitVec.ofNat_toNat, BitVec.setWidth_eq]
  rfl

/-- Placing a command word as a table word places that word (log 7). -/
theorem withFetchWord_toNat (s : State) (cw : CmdWord) : s.withFetchWord 136 cw.toNat = s.placeWord cw := by
  rw [State.withFetchWord, tableWord_toNat, BitVec.ofNat_toNat, BitVec.setWidth_eq]

/-! ### Edges that present a command -/

/-- The ports at an edge that presents a command (R55, R56). -/
theorem Edge.command_encode (i : Instr) : Edge.command (encode i) = ⟨false, true, i.opcode, i.operand⟩ := by
  rw [Edge.command, encode, cwOp_mkCmdWord, cwData_mkCmdWord]

/-- The word presented with a command decodes to it. -/
theorem decode_word_command_encode (i : Instr) : decode (Edge.command (encode i)).word = i := by
  rw [Edge.word_command, decode_encode]

/-- An immediate below `2^128` becomes the operand (R64). -/
theorem assemble_seed_of_lt {imm : Nat} (h : imm < 2 ^ 128) :
    (AsmLine.seed imm).assemble = .ok (Edge.command (encode (.seed (BitVec.ofNat 128 imm)))) :=
  if_pos (decide_eq_true h)

/-- A larger immediate is refused by name (R64; log 12). -/
theorem assemble_seed_of_ge {imm : Nat} (h : 2 ^ 128 ≤ imm) :
    (AsmLine.seed imm).assemble = .error .immediateTooLarge :=
  if_neg fun hwf => Nat.not_lt.mpr h (of_decide_eq_true hwf)

/-! ### A step, by the edge at the head of the host's list -/

section Step

variable {s : State} {e : Edge} {rest : List Edge}

/-- The edge at the head of the list is the one presented (log 1). -/
theorem presented_of_host (h : s.host = e :: rest) : s.presented = e := by
  rw [State.presented, h]
  rfl

/-- An edge that has passed is off the list (log 1). -/
theorem consume_of_host (h : s.host = e :: rest) : s.consume = { s with host := rest } := by
  rw [State.consume, h]
  rfl

/-- An edge with `rst = 1` resets the block, whatever else it presents (R66, R170). -/
theorem step_of_rst (h : s.host = e :: rest) (hr : e.rst = true) :
    step s = .next { State.reset with host := rest } := by
  rw [step, presented_of_host h, consume_of_host h, if_pos hr]
  rfl

/-- An edge that presents a word runs the command the word decodes to (R66). -/
theorem step_of_cmdValid (h : s.host = e :: rest) (hr : e.rst = false) (hc : e.cmdValid = true) :
    step s = exec (decode e.word) { s with host := rest } := by
  rw [step, presented_of_host h, consume_of_host h, hr, if_neg Bool.false_ne_true, if_pos hc]

/-- An edge that presents nothing only drops `RSP.valid` (R66). -/
theorem step_of_idle (h : s.host = e :: rest) (hr : e.rst = false) (hc : e.cmdValid = false) :
    step s = .next ({ s with host := rest } : State).dropResponse := by
  rw [step, presented_of_host h, consume_of_host h, hr, hc, if_neg Bool.false_ne_true,
    if_neg Bool.false_ne_true]

end Step

/-- A command at the edge after another runs in the state that the earlier one left (R66). -/
theorem core_run_two_commands {i j : Instr} {s t : State} {rest : List Edge}
    (h : exec i { s with host := Edge.command (encode j) :: rest } = .next t) :
    core.run 2 { s with host := Edge.command (encode i) :: Edge.command (encode j) :: rest } =
      exec j { t with host := rest } := by
  rw [exec_eq_next_iff, commandRule_with_host] at h
  subst h
  rw [exec_eq_commandRule, commandRule_with_host, commandRule_with_host]
  exact core_run_commandEdges [i, j] rest s

/-! ### The response word -/

/-- The status field of a packed response (R58). -/
@[simp] theorem extractLsb'_status_packResponse (r : Response) :
    (packResponse r).extractLsb' 128 2 = statusCode r.status :=
  cwOp_mkCmdWord _ _

/-- The data field of a packed response (R58). -/
@[simp] theorem extractLsb'_data_packResponse (r : Response) :
    (packResponse r).extractLsb' 0 128 = r.data :=
  cwData_mkCmdWord _ _

/-- A code is read as the one status that has it (R59). -/
theorem statusOfCode_eq_some_iff {c : BitVec 2} {st : Status} :
    statusOfCode c = some st ↔ c = statusCode st := by
  revert c
  cases st <;> decide

/-- The reserved code is the only one that is no status (R59). -/
theorem statusOfCode_eq_none_iff {c : BitVec 2} : statusOfCode c = none ↔ c = 0b11 := by
  revert c
  decide

/-- No status has the reserved code (R59). -/
theorem statusCode_ne_reserved (st : Status) : statusCode st ≠ 0b11 := by
  cases st <;> decide

/-- A packed response reads back (R58). -/
@[simp] theorem unpackResponse_packResponse (r : Response) : unpackResponse (packResponse r) = some r := by
  rw [unpackResponse, extractLsb'_status_packResponse, extractLsb'_data_packResponse,
    statusOfCode_eq_some_iff.mpr rfl]
  rfl

/-- A word is no response exactly when its status field is reserved (R59, R62). -/
theorem unpackResponse_eq_none_iff {w : RspWord} : unpackResponse w = none ↔ w.extractLsb' 128 2 = 0b11 := by
  rw [unpackResponse, Option.map_eq_none_iff, statusOfCode_eq_none_iff]

/-- What a word unpacks to packs to that word: the two fields are the whole word (R58). -/
theorem packResponse_of_unpackResponse {w : RspWord} {r : Response} (h : unpackResponse w = some r) :
    packResponse r = w := by
  obtain ⟨st, hst, rfl⟩ := Option.map_eq_some_iff.mp h
  rw [packResponse, ← statusOfCode_eq_some_iff.mp hst]
  exact mkCmdWord_cwOp_cwData w

/-! ### The data of a response -/

/-- The low half of the data of a `NEXT` is the output (R61). -/
@[simp] theorem extractLsb'_low_zextOutput (v : Word) : (zextOutput v).extractLsb' 0 64 = v := by
  rw [zextOutput, BitVec.extractLsb'_setWidth_of_le (by decide), BitVec.extractLsb'_eq_self]

/-- The high half of the data of a `NEXT` is 0 (R61). -/
@[simp] theorem extractLsb'_high_zextOutput (v : Word) : (zextOutput v).extractLsb' 64 64 = 0#64 := by
  apply BitVec.eq_of_getLsbD_eq
  intro i hi
  simp [zextOutput]

/-- A seed of nonzero operand is stored, under either policy (R127). -/
theorem seedRule_of_ne_zero (p : Params) {v : Block} (hv : v ≠ 0) (s : State) :
    seedRule p v s = (s.store v).respond .ok 0 :=
  if_neg fun h => hv (eq_of_beq h)

/-- No `SEED` answers data (R61). -/
@[simp] theorem seedRule_data (p : Params) (v : Block) (s : State) : (seedRule p v s).RSP.data = 0 := by
  obtain ⟨_, h⟩ | ⟨_, _, h⟩ | ⟨_, _, h⟩ := seedRule_cases p v s <;> rw [h] <;> rfl

/-- Every command that fails answers data 0, from any state (R61, 60_exceptions R145). -/
theorem commandRule_rspInv (p : Params) (i : Instr) (s : State) : (commandRule p i s).RspInv := by
  intro hst
  cases i with
  | nop _ => rfl
  | seed v => exact seedRule_data p v s
  | next _ =>
    obtain ⟨_, h⟩ | ⟨_, h⟩ := nextRule_cases p s <;> rw [commandRule, h] at hst ⊢
    · exact absurd rfl hst
    · rfl
  | state _ =>
    obtain ⟨_, h⟩ | ⟨_, h⟩ := stateRule_cases s <;> rw [commandRule, h] at hst ⊢
    · exact absurd rfl hst
    · rfl

/-! ### The obligations -/

/-- Settles O2: a command keeps its operand, ignored or not, so it determines its word. -/
theorem decodeAndEncodeAreInverse : Obligations.DecodeAndEncodeAreInverse :=
  ⟨decode_encode, encode_decode⟩

/-- Settles O1: each row's constant is the word of its opcode with operand 0, so the masked match compares
opcodes. -/
theorem opcodeMapSelectsTheCommand : Obligations.OpcodeMapSelectsTheCommand := by
  have row0 : (0 : CmdWord) <<< 128 = mkCmdWord 0b00 0 := by decide
  have row1 : (1 : CmdWord) <<< 128 = mkCmdWord 0b01 0 := by decide
  have row2 : (2 : CmdWord) <<< 128 = mkCmdWord 0b10 0 := by decide
  have row3 : (3 : CmdWord) <<< 128 = mkCmdWord 0b11 0 := by decide
  unfold Obligations.OpcodeMapSelectsTheCommand
  rw [row0, row1, row2, row3]
  simp only [and_opcodeMask_eq_iff]
  exact ⟨by decide, fun _ => decode_of_cwOp, fun _ => decode_of_cwOp, fun _ => decode_of_cwOp,
    fun _ => decode_of_cwOp, fun cw => opcode_cases (cwOp cw)⟩

/-- Settles O8: the three cases of an edge, and two edges in a row as a list of two commands. -/
theorem clockEdgeDoesOneOfThreeThings : Obligations.ClockEdgeDoesOneOfThreeThings := by
  intro s e rest h
  refine ⟨step_of_rst h, fun hr hc => ?_, step_of_idle h, fun i j t => core_run_two_commands⟩
  have hexec := exec_eq_commandRule (decode e.word) { s with host := rest }
  exact ⟨_, hexec, (step_of_cmdValid h hr hc).trans hexec, commandRule_rsp_valid _ _ _,
    commandRule_host _ _ _⟩

/-- Settles O9: the encoded command survives the table's width, and the placed word stands at the head of the
list. -/
theorem placedTableWordRunsNext : Obligations.PlacedTableWordRunsNext := by
  refine ⟨fun i s => ⟨?_, ?_⟩, fun _ => decodeNat_of_ge⟩
  · rw [decodeTableWord_toNat, decode_encode]
  · rw [withFetchWord_toNat, step_of_cmdValid (State.placeWord_host s (encode i)) rfl rfl,
      decode_word_command_encode]
    rfl

/-- Settles O23. -/
theorem responseWordsReadBack : Obligations.ResponseWordsReadBack :=
  ⟨rfl, rfl, rfl, unpackResponse_packResponse, fun _ => unpackResponse_eq_none_iff,
    fun _ _ => packResponse_of_unpackResponse⟩

/-- Settles O24: row by row, from what each command can do; a refusal contradicts the status `OK`. -/
theorem responseDataTable : Obligations.ResponseDataTable := by
  refine ⟨fun p s hst => ?next, fun s hst => ?state, fun p v s => ⟨seedRule_data p v s, rfl⟩,
    commandRule_rspInv⟩
  case next =>
    obtain ⟨_, h⟩ | ⟨_, h⟩ := nextRule_cases p s <;> rw [h] at hst ⊢
    · exact ⟨extractLsb'_low_zextOutput _, extractLsb'_high_zextOutput _⟩
    · cases hst
  case state =>
    obtain ⟨_, h⟩ | ⟨_, h⟩ := stateRule_cases s <;> rw [h] at hst ⊢
    · rfl
    · cases hst

/-- Settles O3: each word is the encoding of its command. -/
theorem writtenOutWordsDecode : Obligations.WrittenOutWordsDecode :=
  ⟨decode_encode (.nop 0), decode_encode (.seed 42),
    decode_encode (.seed 0xffffffffffffffffffffffffffffffff),
    decode_encode (.seed 0x80000000000000000000000000000000), decode_encode (.next 0),
    decode_encode (.next 0xdeadbeef), decode_encode (.state 0)⟩

/-- Settles O4: the decoder is total below `2^130`, every command answers, and the rules of `NOP`, `NEXT` and
`STATE` take no operand. -/
theorem noCommandWordIsIllegal : Obligations.NoCommandWordIsIllegal :=
  ⟨fun _ hn => ⟨_, decodeNat_of_lt hn⟩,
    fun _ _ => ⟨_, exec_eq_commandRule _ _, statusCode_ne_reserved _⟩, fun _ _ => ⟨rfl, rfl, rfl⟩⟩

/-- Settles O5. -/
theorem onlySeedUsesItsOperand : Obligations.OnlySeedUsesItsOperand := by
  refine ⟨fun v s hv => ⟨_, exec_eq_commandRule _ _, ?_⟩, fun _ => rfl, fun _ _ _ => ⟨rfl, rfl, rfl⟩,
    congrArg Except.ok (Edge.command_encode (.nop 0)), congrArg Except.ok (Edge.command_encode (.next 0)),
    congrArg Except.ok (Edge.command_encode (.state 0))⟩
  rw [commandRule, seedRule_of_ne_zero _ hv, State.respond_S, State.store_S]

/-- Settles O6: a line's edge presents the encoding of its command, which the decoder reads back. -/
theorem assemblerLinesMeanTheirCommands : Obligations.AssemblerLinesMeanTheirCommands :=
  ⟨fun _ himm => ⟨_, assemble_seed_of_lt himm, rfl, rfl, decode_word_command_encode _⟩,
    fun _ => assemble_seed_of_ge, ⟨_, rfl, rfl⟩, ⟨_, rfl, rfl, decode_word_command_encode (.nop 0)⟩,
    ⟨_, rfl, rfl, decode_word_command_encode (.next 0)⟩,
    ⟨_, rfl, rfl, decode_word_command_encode (.state 0)⟩⟩

/-- Settles O7: the command's case of an edge. -/
theorem stepRunsThePresentedCommand : Obligations.StepRunsThePresentedCommand := by
  rintro s e rest _ h hr hc rfl
  exact step_of_cmdValid h hr hc

end Sys2Proof.Machine

/-! SUPPORT. The proofs of the family 40_transition. First linear maps and matrices over GF(2): a linear map is
known by its values on the unit vectors, matrices multiply as maps compose, and powers are iterates. Then cycles:
one value whose orbit is as long as there are nonzero values puts them all on one cycle. Then polynomials in a
linear map, which carry the cycle of `x` modulo `P_REF` over to the transition; then the design-time check, the
negative controls, the 16-bit analog, the combiner's carries, and the obligations. -/

namespace Sys2Proof.Machine

open Function (minimalPeriod IsPeriodicPt Semiconj)

/-! ### Linear maps -/

/-- Every value is an XOR of unit vectors, so a property of those that XOR keeps is a property of all. -/
theorem xor_induction {n : Nat} {P : BitVec n → Prop} (zero : P 0)
    (unit : ∀ j < n, P (BitVec.twoPow n j)) (xor : ∀ x y, P x → P y → P (x ^^^ y)) (x : BitVec n) : P x := by
  have below : ∀ k ≤ n, ∀ x : BitVec n, (∀ i, k ≤ i → x.getLsbD i = false) → P x := by
    intro k
    induction k with
    | zero =>
      intro _ x hx
      have h0 : x = 0 := BitVec.eq_of_getLsbD_eq fun i _ => by simp [hx i (Nat.zero_le i)]
      rwa [h0]
    | succ k ih =>
      intro hk x hx
      by_cases hxk : x.getLsbD k = true
      · have hlow : P (x ^^^ BitVec.twoPow n k) := by
          refine ih (by omega) _ fun i hi => ?_
          rcases Nat.eq_or_lt_of_le hi with rfl | hlt
          · simp [hxk, show k < n by omega]
          · simp [hx i hlt, show k ≠ i by omega]
        simpa [BitVec.xor_assoc] using xor _ _ hlow (unit k hk)
      · refine ih (by omega) x fun i hi => ?_
        rcases Nat.eq_or_lt_of_le hi with rfl | hlt
        · simpa using hxk
        · exact hx i hlt
  exact below n le_rfl x fun i hi => BitVec.getLsbD_of_ge x i hi

/-- A value under a sum of two conditions is the sum of the value under each. -/
theorem ite_xor {n : Nat} (c d : Bool) (x : BitVec n) :
    (if (c ^^ d) = true then x else 0) = (if c = true then x else 0) ^^^ (if d = true then x else 0) := by
  cases c <;> cases d <;> simp

section Linear

variable {n : Nat} {f g : BitVec n → BitVec n}

/-- A linear map fixes 0 (40_transition R87). -/
theorem Linear.map_zero (hf : Linear f) : f 0 = 0 := by
  simpa using hf 0 0

/-- Linear maps that agree on the unit vectors are equal. -/
theorem Linear.ext (hf : Linear f) (hg : Linear g)
    (h : ∀ j < n, f (BitVec.twoPow n j) = g (BitVec.twoPow n j)) : f = g := by
  funext x
  induction x using xor_induction with
  | zero => rw [hf.map_zero, hg.map_zero]
  | unit j hj => exact h j hj
  | xor x y hx hy => rw [hf, hg, hx, hy]

/-- Iterates of a linear map are linear. -/
theorem Linear.iterate (hf : Linear f) (k : Nat) : Linear f^[k] := by
  induction k with
  | zero => exact fun _ _ => rfl
  | succ k ih =>
    intro x y
    rw [Function.iterate_succ_apply, hf, ih]
    rfl

/-- A linear map goes inside a condition. -/
theorem Linear.map_ite (hf : Linear f) (c : Prop) [Decidable c] (x : BitVec n) :
    f (if c then x else 0) = if c then f x else 0 := by
  split
  · rfl
  · exact hf.map_zero

end Linear

/-! ### Parity -/

/-- Parity is additive (00_scope R10). -/
theorem parity_xor {w : Nat} (a b : BitVec w) : parity (a ^^^ b) = (parity a ^^ parity b) := by
  have fold (l : List Nat) (p q : Bool) :
      l.foldl (fun s i => s ^^ (a ^^^ b).getLsbD i) (p ^^ q) =
        (l.foldl (fun s i => s ^^ a.getLsbD i) p ^^ l.foldl (fun s i => s ^^ b.getLsbD i) q) := by
    induction l generalizing p q with
    | nil => rfl
    | cons i l ih =>
      have hswap : (p ^^ q ^^ (a ^^^ b).getLsbD i) = (p ^^ a.getLsbD i ^^ (q ^^ b.getLsbD i)) := by
        rw [BitVec.getLsbD_xor, Bool.xor_assoc, Bool.xor_assoc, Bool.xor_left_comm q]
      rw [List.foldl_cons, List.foldl_cons, List.foldl_cons, ← ih, hswap]
  exact fold (List.range w) false false

/-- The parity of 0. -/
@[simp] theorem parity_zero (w : Nat) : parity 0#w = false := by
  simpa using parity_xor 0#w 0#w

/-- A product of a row is additive in the vector (R81). -/
theorem parity_and_xor {w : Nat} (r x y : BitVec w) :
    parity (r &&& (x ^^^ y)) = (parity (r &&& x) ^^ parity (r &&& y)) := by
  rw [← parity_xor]
  congr 1
  exact BitVec.eq_of_getLsbD_eq fun i _ => by simp [Bool.and_xor_distrib_left]

/-- The parity of one selected bit is that bit. -/
theorem parity_and_twoPow {w : Nat} (r : BitVec w) {j : Nat} (hj : j < w) :
    parity (r &&& BitVec.twoPow w j) = r.getLsbD j := by
  have initial (k : Nat) :
      (List.range k).foldl (fun s i => s ^^ (r &&& BitVec.twoPow w j).getLsbD i) false =
        (decide (j < k) && r.getLsbD j) := by
    induction k with
    | zero => simp
    | succ k ih =>
      rw [List.range_succ, List.foldl_append, ih]
      rcases Nat.lt_trichotomy j k with h | rfl | h
      · simp [h, Nat.lt_succ_of_lt h, Nat.ne_of_lt h]
      · simp [hj]
      · simp [Nat.not_lt_of_gt h, show ¬ j < k + 1 by omega, show j ≠ k by omega]
  rw [parity, initial w, decide_eq_true hj, Bool.true_and]

/-! ### Matrices as maps -/

section Matrix

variable {n : Nat}

/-- The entries of a list of bits. -/
theorem getLsbD_ofBits (bs : List Bool) {i : Nat} (hi : i < n) :
    (ofBits n bs).getLsbD i = bs.getD i false := by
  rw [ofBits, BitVec.getLsbD_setWidth, BitVec.getLsbD_ofBoolListLE]
  simp [hi]

/-- A bit of a product is the parity of the row's selection (R81). -/
theorem getLsbD_mulVec (A : Mat n) (x : BitVec n) {i : Nat} (hi : i < n) :
    (A.mulVec x).getLsbD i = parity (A.row i &&& x) := by
  rw [Mat.mulVec, getLsbD_ofBits _ hi, Mat.row, List.getD_eq_getElem?_getD, List.getElem?_map,
    List.getD_eq_getElem?_getD]
  cases A[i]? <;> simp

/-- A product is linear in the vector (R87). -/
theorem mulVec_linear (A : Mat n) : Linear A.mulVec := fun x y =>
  BitVec.eq_of_getLsbD_eq fun i hi => by
    rw [BitVec.getLsbD_xor, getLsbD_mulVec A _ hi, getLsbD_mulVec A _ hi, getLsbD_mulVec A _ hi, parity_and_xor]

/-- The product with a unit vector is a column (R92). -/
theorem getLsbD_mulVec_twoPow (A : Mat n) {i j : Nat} (hi : i < n) (hj : j < n) :
    (A.mulVec (BitVec.twoPow n j)).getLsbD i = A.entry i j := by
  rw [getLsbD_mulVec A _ hi, parity_and_twoPow _ hj, Mat.entry]

/-- The number of rows that `Mat.wf` asks for. -/
theorem wf_iff {A : Mat n} : A.wf = true ↔ A.length = n := by
  rw [Mat.wf, beq_iff_eq]

/-- A matrix is known by its products. -/
theorem mat_ext_of_mulVec {A B : Mat n} (hA : A.wf = true) (hB : B.wf = true) (h : A.mulVec = B.mulVec) :
    A = B := by
  rw [wf_iff] at hA hB
  refine List.ext_getElem (hA.trans hB.symm) fun i hiA hiB => BitVec.eq_of_getLsbD_eq fun j hj => ?_
  have hij := getLsbD_mulVec_twoPow A (hA ▸ hiA) hj
  rw [h, getLsbD_mulVec_twoPow B (hA ▸ hiA) hj] at hij
  simpa [Mat.entry, Mat.row, hiA, hiB] using hij.symm

/-- The identity has as many rows as columns. -/
theorem identity_wf (n : Nat) : (Mat.identity n).wf = true := by
  simp [wf_iff, Mat.identity]

/-- The identity matrix is the identity map (R93). -/
theorem identity_mulVec (n : Nat) : (Mat.identity n).mulVec = id := by
  refine (mulVec_linear _).ext (fun _ _ => rfl) fun j hj => BitVec.eq_of_getLsbD_eq fun i hi => ?_
  rw [getLsbD_mulVec_twoPow _ hi hj]
  simp [Mat.entry, Mat.row, Mat.identity, hi, hj, eq_comm]

/-- Selecting rows is additive in the selection (R93). -/
theorem selectRows_xor (s t : BitVec n) (k : Nat) (K : Mat n) :
    Mat.selectRows (s ^^^ t) k K = Mat.selectRows s k K ^^^ Mat.selectRows t k K := by
  induction K generalizing k with
  | nil => simp [Mat.selectRows]
  | cons r K ih =>
    rw [Mat.selectRows, Mat.selectRows, Mat.selectRows, ih, BitVec.getLsbD_xor, ite_xor]
    ac_rfl

/-- No bit selects no row. -/
@[simp] theorem selectRows_zero (k : Nat) (K : Mat n) : Mat.selectRows 0#n k K = 0 := by
  simpa using selectRows_xor 0#n 0#n k K

/-- A unit vector selects its row. -/
theorem selectRows_twoPow {j : Nat} (hj : j < n) (k : Nat) (K : Mat n) :
    Mat.selectRows (BitVec.twoPow n j) k K = if k ≤ j then K.row (j - k) else 0 := by
  induction K generalizing k with
  | nil => simp [Mat.selectRows, Mat.row]
  | cons r K ih =>
    rw [Mat.selectRows, ih]
    rcases Nat.lt_trichotomy j k with h | rfl | h
    · simp [show j ≠ k by omega, show ¬ k + 1 ≤ j by omega, show ¬ k ≤ j by omega]
    · simp [hj, Mat.row]
    · have hsub : j - k = (j - (k + 1)) + 1 := by omega
      simp [show j ≠ k by omega, show k + 1 ≤ j by omega, Nat.le_of_lt h, Mat.row, hsub]

/-- Selecting rows is the product from the left, seen through a parity (R93). -/
theorem parity_selectRows (s x : BitVec n) (K : Mat n) :
    parity (Mat.selectRows s 0 K &&& x) = parity (s &&& K.mulVec x) := by
  induction s using xor_induction with
  | zero =>
    simp
  | unit j hj =>
    rw [selectRows_twoPow hj, if_pos (Nat.zero_le j), Nat.sub_zero, BitVec.and_comm (BitVec.twoPow n j),
      parity_and_twoPow _ hj, getLsbD_mulVec K x hj]
  | xor s t hs ht =>
    rw [selectRows_xor, BitVec.and_comm, parity_and_xor, BitVec.and_comm x, BitVec.and_comm x, hs, ht,
      BitVec.and_comm (s ^^^ t), parity_and_xor, BitVec.and_comm _ s, BitVec.and_comm _ t]

/-- A product has the rows of its left factor. -/
theorem mul_wf {M : Mat n} (K : Mat n) (hM : M.wf = true) : (M.mul K).wf = true := by
  rw [wf_iff] at hM ⊢
  rw [Mat.mul, List.length_map, hM]

/-- The product of matrices is the composition of maps (R93). -/
theorem mul_mulVec (M K : Mat n) : (M.mul K).mulVec = M.mulVec ∘ K.mulVec := by
  funext x
  refine BitVec.eq_of_getLsbD_eq fun i hi => ?_
  have hrow : (M.mul K).row i = Mat.selectRows (M.row i) 0 K := by
    simp only [Mat.row, Mat.mul, List.getD_eq_getElem?_getD, List.getElem?_map]
    cases M[i]? <;> simp
  rw [getLsbD_mulVec _ _ hi, hrow, parity_selectRows, Function.comp_apply, getLsbD_mulVec _ _ hi]

/-- Square and multiply, with the running square `B` and the result `R` so far (R93). -/
theorem powLoop_spec (fuel e : Nat) (B R : Mat n) (he : e < 2 ^ fuel) (hB : B.wf = true) (hR : R.wf = true) :
    (Mat.powLoop fuel e B R).wf = true ∧
      (Mat.powLoop fuel e B R).mulVec = R.mulVec ∘ B.mulVec^[e] := by
  induction fuel generalizing e B R with
  | zero =>
    obtain rfl : e = 0 := by simpa using he
    exact ⟨hR, rfl⟩
  | succ fuel ih =>
    rw [Mat.powLoop]
    obtain ⟨hwf, hmap⟩ := ih (e / 2) (B.mul B) (if e % 2 = 1 then R.mul B else R) (by omega) (mul_wf B hB)
      (by split <;> simp [mul_wf, hR])
    refine ⟨hwf, hmap.trans ?_⟩
    have hsq : (B.mul B).mulVec^[e / 2] = B.mulVec^[2 * (e / 2)] := by
      rw [mul_mulVec, Function.iterate_mul]
      rfl
    rw [hsq]
    rcases Nat.mod_two_eq_zero_or_one e with h | h
    · rw [if_neg (by omega), show 2 * (e / 2) = e by omega]
    · rw [if_pos h, mul_mulVec, Function.comp_assoc, ← Function.iterate_succ',
        show (2 * (e / 2)).succ = e by omega]

/-- A power has as many rows as columns. -/
theorem pow_wf {A : Mat n} (hA : A.wf = true) (e : Nat) : (A.pow e).wf = true :=
  (powLoop_spec _ _ _ _ (Nat.lt_size_self e) hA (identity_wf n)).1

/-- The power of a matrix is the iterate of its map (R93). -/
theorem pow_mulVec {A : Mat n} (hA : A.wf = true) (e : Nat) : (A.pow e).mulVec = A.mulVec^[e] := by
  rw [Mat.pow, (powLoop_spec _ _ _ _ (Nat.lt_size_self e) hA (identity_wf n)).2, identity_mulVec,
    Function.id_comp]

/-- A power is the identity matrix exactly when the iterate is the identity map. -/
theorem pow_eq_identity_iff {A : Mat n} (hA : A.wf = true) (e : Nat) :
    A.pow e = Mat.identity n ↔ A.mulVec^[e] = id := by
  rw [← pow_mulVec hA, ← identity_mulVec]
  exact ⟨congrArg Mat.mulVec, mat_ext_of_mulVec (pow_wf hA e) (identity_wf n)⟩

/-- The matrix of a map has as many rows as columns. -/
theorem ofFunction_wf (f : BitVec n → BitVec n) : (Mat.ofFunction f).wf = true := by
  simp [wf_iff, Mat.ofFunction]

/-- The matrix made from a linear map column by column multiplies as the map does (R92). -/
theorem ofFunction_mulVec {f : BitVec n → BitVec n} (hf : Linear f) : (Mat.ofFunction f).mulVec = f := by
  refine (mulVec_linear _).ext hf fun j hj => BitVec.eq_of_getLsbD_eq fun i hi => ?_
  rw [getLsbD_mulVec_twoPow _ hi hj]
  simp only [Mat.entry, Mat.row, Mat.ofFunction]
  rw [List.getD_eq_getElem?_getD, List.getElem?_map, List.getElem?_range hi, Option.map_some,
    Option.getD_some, getLsbD_ofBits _ hj]
  simp [hj]

/-- Flipping entry `[i][j]` adds unit vector `i` to the product when bit `j` is set (R98). -/
theorem flip_mulVec {A : Mat n} (hA : A.wf = true) {i j : Nat} (hi : i < n) (hj : j < n) (x : BitVec n) :
    (A.flip i j).mulVec x = A.mulVec x ^^^ (if x.getLsbD j then BitVec.twoPow n i else 0) := by
  rw [wf_iff] at hA
  refine BitVec.eq_of_getLsbD_eq fun k hk => ?_
  rw [BitVec.getLsbD_xor, getLsbD_mulVec _ _ hk, getLsbD_mulVec _ _ hk]
  by_cases hik : i = k
  · subst hik
    have hrow : (A.flip i j).row i = A.row i ^^^ BitVec.twoPow n j := by
      rw [Mat.flip, Mat.row, List.getD_eq_getElem?_getD, List.getElem?_set_self (hA.symm ▸ hi), Option.getD_some]
    rw [hrow, BitVec.and_comm, parity_and_xor, BitVec.and_comm x, parity_and_twoPow x hj]
    cases x.getLsbD j <;> simp [hi]
  · have hrow : (A.flip i j).row k = A.row k := by
      simp only [Mat.flip, Mat.row, List.getD_eq_getElem?_getD, List.getElem?_set_ne hik]
    rw [hrow]
    cases x.getLsbD j <;> simp [hik]

/-- Flipping an entry keeps the number of rows. -/
theorem flip_wf {A : Mat n} (hA : A.wf = true) (i j : Nat) : (A.flip i j).wf = true := by
  rw [wf_iff] at hA ⊢
  rw [Mat.flip, List.length_set, hA]

end Matrix

/-! ### Cycles -/

/-- A point that returns after `N` steps and after no `N / q`, `q` a prime factor of `N`, has period `N`: a
smaller period would divide one of them (R96). -/
theorem minimalPeriod_eq_of_primes {α : Type} {f : α → α} {x : α} {N : Nat} (hN : f^[N] x = x)
    (hq : ∀ q, q.Prime → q ∣ N → f^[N / q] x ≠ x) : minimalPeriod f x = N := by
  obtain ⟨m, hm⟩ := IsPeriodicPt.minimalPeriod_dvd (f := f) hN
  by_cases hm1 : m = 1
  · rw [hm, hm1, Nat.mul_one]
  · obtain ⟨q, hqp, c, rfl⟩ := Nat.exists_prime_and_dvd hm1
    have hdiv : N / q = minimalPeriod f x * c := by
      rw [hm, Nat.mul_left_comm, Nat.mul_div_cancel_left _ hqp.pos]
    refine absurd ?_ (hq q hqp ⟨minimalPeriod f x * c, by rw [hm, Nat.mul_left_comm]⟩)
    rw [hdiv]
    exact (Function.isPeriodicPt_minimalPeriod f x).mul_const c

section OneCycle

variable {n : Nat} {f : BitVec n → BitVec n}

/-- Every nonzero value has the period `2^n - 1` (R89 (c)). -/
def OneCycle (f : BitVec n → BitVec n) : Prop := ∀ x : BitVec n, x ≠ 0 → minimalPeriod f x = 2 ^ n - 1

/-- A nonzero value of period `2^n - 1` passes through every nonzero value: its orbit has as many. -/
theorem exists_iterate_eq_of_minimalPeriod (h0 : f 0 = 0) {x : BitVec n} (hx : x ≠ 0)
    (hper : minimalPeriod f x = 2 ^ n - 1) {y : BitVec n} (hy : y ≠ 0) :
    ∃ k, k < 2 ^ n - 1 ∧ f^[k] x = y := by
  have orbit_ne_zero (k : Nat) (hk : k < 2 ^ n - 1) : f^[k] x ≠ 0 := by
    intro hzero
    have hback : f^[2 ^ n - 1] x = x := hper ▸ Function.iterate_minimalPeriod
    rw [← Nat.sub_add_cancel hk.le, Function.iterate_add_apply, hzero, Function.iterate_fixed h0] at hback
    exact hx hback.symm
  have hmaps : Set.MapsTo (fun k => (f^[k] x).toNat) (Finset.range (2 ^ n - 1)) (Finset.Ico 1 (2 ^ n)) := by
    intro k hk
    refine Finset.mem_coe.mpr (Finset.mem_Ico.mpr ⟨Nat.one_le_iff_ne_zero.mpr fun h => ?_, BitVec.isLt _⟩)
    exact orbit_ne_zero k (Finset.mem_range.mp hk) (BitVec.eq_of_toNat_eq h)
  have hinj : Set.InjOn (fun k => (f^[k] x).toNat) (Finset.range (2 ^ n - 1)) := by
    intro i hi j hj hij
    rw [Finset.coe_range, ← hper] at hi hj
    exact Function.iterate_injOn_Iio_minimalPeriod hi hj (BitVec.eq_of_toNat_eq hij)
  have hsurj := Finset.surjOn_of_injOn_of_card_le _ hmaps hinj (by rw [Nat.card_Ico, Finset.card_range])
  have hmem : y.toNat ∈ Finset.Ico 1 (2 ^ n) :=
    Finset.mem_Ico.mpr ⟨Nat.one_le_iff_ne_zero.mpr fun h => hy (BitVec.eq_of_toNat_eq h), y.isLt⟩
  obtain ⟨k, hk, hky⟩ := hsurj hmem
  exact ⟨k, Finset.mem_range.mp hk, BitVec.eq_of_toNat_eq hky⟩

/-- One nonzero value of period `2^n - 1` is enough: the others lie on its orbit. -/
theorem oneCycle_of_minimalPeriod (h0 : f 0 = 0) {x : BitVec n} (hx : x ≠ 0)
    (hper : minimalPeriod f x = 2 ^ n - 1) : OneCycle f := by
  intro y hy
  obtain ⟨k, hk, rfl⟩ := exists_iterate_eq_of_minimalPeriod h0 hx hper hy
  have hx' : x ∈ Function.periodicPts f := Function.minimalPeriod_pos_iff_mem_periodicPts.mp (by omega)
  rw [Function.minimalPeriod_apply_iterate hx', hper]

/-- On one cycle a nonzero value returns exactly after multiples of `2^n - 1` steps. -/
theorem OneCycle.iterate_eq_self_iff (hf : OneCycle f) {x : BitVec n} (hx : x ≠ 0) (k : Nat) :
    f^[k] x = x ↔ 2 ^ n - 1 ∣ k := by
  rw [← hf x hx]
  exact Function.isPeriodicPt_iff_minimalPeriod_dvd

/-- On one cycle an iterate is the identity exactly after multiples of `2^n - 1` steps (R96). -/
theorem OneCycle.iterate_eq_id_iff (hf : OneCycle f) (h0 : f 0 = 0) (hn : 0 < n) (k : Nat) :
    f^[k] = id ↔ 2 ^ n - 1 ∣ k := by
  refine ⟨fun h => ?_, fun h => funext fun x => ?_⟩
  · have h1 : (1 : BitVec n) ≠ 0 := fun h1 => by simpa [hn.ne'] using congrArg BitVec.toNat h1
    exact (hf.iterate_eq_self_iff h1 k).mp (congrFun h 1)
  · by_cases hx : x = 0
    · rw [hx]
      exact Function.iterate_fixed h0 k
    · exact (hf.iterate_eq_self_iff hx k).mpr h

/-- One cycle carries over along a linear map that takes one step to the other and loses no nonzero value of
the cycle. -/
theorem OneCycle.of_semiconj (hf : OneCycle f) (hf0 : f 0 = 0) {g T : BitVec n → BitVec n}
    (hg : Function.Injective g) (hg0 : g 0 = 0) (hT : Linear T) (hfg : Semiconj T f g) {x : BitVec n}
    (hx : T x ≠ 0) : OneCycle g := by
  have hx0 : x ≠ 0 := fun h => hx (h ▸ hT.map_zero)
  have ker (a : BitVec n) (ha : T a = 0) : a = 0 := by
    by_contra hne
    obtain ⟨k, -, rfl⟩ := exists_iterate_eq_of_minimalPeriod hf0 hx0 (hf x hx0) hne
    rw [(hfg.iterate_right k).eq] at ha
    exact hx (hg.iterate k (ha.trans (Function.iterate_fixed hg0 k).symm))
  have inj : Function.Injective T := fun a b hab =>
    BitVec.xor_eq_zero_iff.mp (ker _ (by rw [hT, hab]; exact BitVec.xor_self))
  refine oneCycle_of_minimalPeriod hg0 hx ((hf x hx0).symm.trans ?_).symm
  refine Function.minimalPeriod_eq_minimalPeriod_iff.mpr fun k => ?_
  rw [IsPeriodicPt, IsPeriodicPt, Function.IsFixedPt, Function.IsFixedPt, ← (hfg.iterate_right k).eq, inj.eq_iff]

end OneCycle

/-! ### Polynomials in a linear map -/

section Apply

variable {w : Nat} {f : Block → Block}

/-- A polynomial's value with its last term taken off. -/
theorem polyApplyLoop_succ_last (P : BitVec w) (f : Block → Block) (fuel k : Nat) (v : Block) :
    polyApplyLoop P f (fuel + 1) k v =
      polyApplyLoop P f fuel k v ^^^ (if P.getLsbD (k + fuel) then f^[fuel] v else 0) := by
  induction fuel generalizing k v with
  | zero => simp [polyApplyLoop]
  | succ fuel ih =>
    rw [polyApplyLoop, ih, ← BitVec.xor_assoc, Nat.add_right_comm]
    rfl

/-- The value is additive in the polynomial. -/
theorem polyApplyLoop_xor (P Q : BitVec w) (f : Block → Block) (fuel k : Nat) (v : Block) :
    polyApplyLoop (P ^^^ Q) f fuel k v = polyApplyLoop P f fuel k v ^^^ polyApplyLoop Q f fuel k v := by
  induction fuel generalizing k v with
  | zero => simp [polyApplyLoop]
  | succ fuel ih =>
    rw [polyApplyLoop, polyApplyLoop, polyApplyLoop, ih, BitVec.getLsbD_xor, ite_xor]
    ac_rfl

/-- The zero polynomial's value is 0. -/
@[simp] theorem polyApplyLoop_zero (f : Block → Block) (fuel k : Nat) (v : Block) :
    polyApplyLoop 0#w f fuel k v = 0 := by
  simpa using polyApplyLoop_xor 0#w 0#w f fuel k v

/-- Terms of a polynomial times `x` are those of the polynomial, one place up. -/
theorem polyApplyLoop_shiftLeft (P : BitVec w) (f : Block → Block) {fuel k : Nat} (h : k + 1 + fuel ≤ w)
    (v : Block) : polyApplyLoop (P <<< 1) f fuel (k + 1) v = polyApplyLoop P f fuel k v := by
  induction fuel generalizing k v with
  | zero => rfl
  | succ fuel ih =>
    have hbit : (P <<< 1).getLsbD (k + 1) = P.getLsbD k := by
      simp [show k + 1 < w by omega, show k < w by omega]
    rw [polyApplyLoop, polyApplyLoop, hbit, ih (by omega)]

/-- The value is linear in the vector. -/
theorem polyApplyLoop_linear (hf : Linear f) (P : BitVec w) (fuel k : Nat) :
    Linear (polyApplyLoop P f fuel k) := by
  induction fuel generalizing k with
  | zero => exact fun _ _ => by simp [polyApplyLoop]
  | succ fuel ih =>
    intro x y
    have hterm : (if P.getLsbD k then x ^^^ y else 0) =
        (if P.getLsbD k then x else 0) ^^^ (if P.getLsbD k then y else 0) := by split <;> simp
    rw [polyApplyLoop, polyApplyLoop, polyApplyLoop, hf, ih, hterm]
    ac_rfl

/-- A polynomial in `f` commutes with `f`. -/
theorem polyApplyLoop_commute (hf : Linear f) (P : BitVec w) (fuel k : Nat) :
    Function.Commute (polyApplyLoop P f fuel k) f := by
  intro v
  induction fuel generalizing k v with
  | zero => exact hf.map_zero.symm
  | succ fuel ih =>
    rw [polyApplyLoop, polyApplyLoop, hf, ih, hf.map_ite]

/-- A polynomial in `f` commutes with the iterates of `f`. -/
theorem polyApply_iterate (hf : Linear f) (P : BitVec w) (k : Nat) (v : Block) :
    polyApply P f (f^[k] v) = f^[k] (polyApply P f v) :=
  ((polyApplyLoop_commute hf P w 0).iterate_right k).eq v

/-- The value of a single power of `x`. -/
theorem polyApply_twoPow (f : Block → Block) {j : Nat} (hj : j < w) (v : Block) :
    polyApply (BitVec.twoPow w j) f v = f^[j] v := by
  have terms (fuel : Nat) : polyApplyLoop (BitVec.twoPow w j) f fuel 0 v = if j < fuel then f^[j] v else 0 := by
    induction fuel with
    | zero => rfl
    | succ fuel ih =>
      rw [polyApplyLoop_succ_last, ih, Nat.zero_add]
      rcases Nat.lt_trichotomy j fuel with h | rfl | h
      · simp [h, Nat.lt_succ_of_lt h, h.ne]
      · simp [hj]
      · simp [Nat.not_lt_of_gt h, show ¬ j < fuel + 1 by omega, h.ne']
  rw [polyApply, terms, if_pos hj]

/-- The polynomial 1 is the identity. -/
theorem polyApply_one (f : Block → Block) (hw : 0 < w) (v : Block) : polyApply (1 : BitVec w) f v = v := by
  have h1 : (1 : BitVec w) = BitVec.twoPow w 0 := BitVec.twoPow_zero.symm
  rw [h1, polyApply_twoPow f hw]
  rfl

/-- A step of the residues modulo `x^d + m`: times `x`, the overflowing term replaced by `m`. -/
def companionStep {d : Nat} (m a : BitVec d) : BitVec d :=
  if a.getLsbD (d - 1) then (a <<< 1) ^^^ m else a <<< 1

/-- The model's `polyMulX` is this step modulo `P_REF` (R91). -/
theorem polyMulX_eq_companionStep : polyMulX = companionStep pRefLow := rfl

/-- The step as a shift and a correction. -/
theorem companionStep_eq {d : Nat} (m a : BitVec d) :
    companionStep m a = (a <<< 1) ^^^ (if a.getLsbD (d - 1) then m else 0) := by
  unfold companionStep
  split <;> simp

/-- The step is linear. -/
theorem companionStep_linear {d : Nat} (m : BitVec d) : Linear (companionStep m) := fun a b => by
  rw [companionStep_eq, companionStep_eq, companionStep_eq, BitVec.shiftLeft_xor_distrib, BitVec.getLsbD_xor,
    ite_xor]
  ac_rfl

/-- Where `x^d + m` annihilates `v` under `f`, times `x` of a residue is one application of `f` (R91). -/
theorem polyApply_companionStep {d : Nat} {m : BitVec d} {v : Block} (hf : Linear f) (hd : 0 < d)
    (hv : f^[d] v = polyApply m f v) : Semiconj (fun a => polyApply a f v) (companionStep m) f := by
  intro a
  obtain ⟨d, rfl⟩ := Nat.exists_eq_add_one.mpr hd
  have hshift : polyApply (a <<< 1) f v = f (polyApplyLoop a f d 0 v) := by
    rw [polyApply, polyApplyLoop, polyApplyLoop_shiftLeft a f (by omega), polyApplyLoop_commute hf]
    simp
  have hcorrect : polyApply (if a.getLsbD d then m else 0) f v = if a.getLsbD d then f^[d + 1] v else 0 := by
    split
    · exact hv.symm
    · exact polyApplyLoop_zero f _ _ v
  calc polyApply (companionStep m a) f v
    _ = polyApply (a <<< 1) f v ^^^ polyApply (if a.getLsbD d then m else 0) f v := by
      rw [companionStep_eq]
      exact polyApplyLoop_xor _ _ f _ _ v
    _ = f (polyApplyLoop a f d 0 v) ^^^ f (if a.getLsbD d then f^[d] v else 0) := by
      rw [hshift, hcorrect, hf.map_ite, Function.iterate_succ_apply']
    _ = f (polyApply a f v) := by
      rw [← hf, polyApply, polyApplyLoop_succ_last, Nat.zero_add]

end Apply

/-! ### Residues modulo `x^128 + m`

The product of two residues is one of them, as a polynomial in "times `x`", applied to the other. -/

section Residues

variable (m : Block)

/-- Below the degree, the powers of `x` are the unit vectors. -/
theorem companionStep_iterate_one {j : Nat} (hj : j < 128) :
    (companionStep m)^[j] 1 = BitVec.twoPow 128 j := by
  induction j with
  | zero => exact (BitVec.twoPow_zero (w := 128)).symm
  | succ j ih =>
    rw [Function.iterate_succ_apply', ih (by omega), companionStep_eq]
    refine BitVec.eq_of_getLsbD_eq fun i hi => ?_
    rw [BitVec.getLsbD_xor, BitVec.getLsbD_twoPow, BitVec.getLsbD_twoPow, BitVec.getLsbD_shiftLeft,
      BitVec.getLsbD_twoPow]
    cases i <;> simp [show j ≠ 127 by omega, show j < 128 by omega, hi, hj]

/-- A residue is its own value at `x`. -/
theorem polyApply_companionStep_one (a : Block) : polyApply a (companionStep m) 1 = a := by
  induction a using xor_induction with
  | zero => exact polyApplyLoop_zero _ _ _ _
  | unit j hj => rw [polyApply_twoPow _ hj, companionStep_iterate_one m hj]
  | xor a b ha hb =>
    rw [polyApply, polyApplyLoop_xor, ← polyApply, ← polyApply, ha, hb]

/-- In a product of powers of `x` the exponents add. -/
theorem polyApply_iterate_companionStep (i j : Nat) :
    polyApply ((companionStep m)^[j] 1) (companionStep m) ((companionStep m)^[i] 1) =
      (companionStep m)^[i + j] 1 := by
  rw [polyApply_iterate (companionStep_linear m), polyApply_companionStep_one, Function.iterate_add_apply]

/-- Horner's rule, one term on: `x` times the value so far, plus the next term. -/
theorem polyApplyLoop_horner {f : Block → Block} (hf : Linear f) (a b acc : Block) (k : Nat) :
    f^[k] (f acc ^^^ (if b.getLsbD k then a else 0)) ^^^ polyApplyLoop b f k 0 a =
      f^[k + 1] acc ^^^ polyApplyLoop b f (k + 1) 0 a := by
  rw [hf.iterate k, (hf.iterate k).map_ite, polyApplyLoop_succ_last, Nat.zero_add, Function.iterate_succ_apply]
  ac_rfl

/-! #### The same on numbers, in `Nat`'s own functions, which the kernel computes directly -/

/-- Times `x` modulo the polynomial with the bits of `P`, of degree 128. -/
def stepNat (P a : Nat) : Nat := Nat.xor (Nat.mul 2 a) (Nat.mul P (Nat.mod (Nat.div a (2 ^ 127)) 2))

/-- Horner's rule for the product of `a` and `b`, from bit `k - 1` of `b` down. -/
def mulLoopNat (P a b : Nat) : Nat → Nat → Nat
  | 0, acc => acc
  | k + 1, acc =>
    mulLoopNat P a b k (Nat.xor (stepNat P acc) (Nat.mul a (Nat.mod (Nat.div b (2 ^ k)) 2)))

/-- A number handed on. The match makes the kernel compute it first, so that a long chain of products needs no
deep recursion. -/
def evaluated (x : Nat) (k : Nat → Nat) : Nat :=
  match x with
  | 0 => k 0
  | n + 1 => k (n + 1)

/-- Handing a number on changes nothing. -/
theorem evaluated_eq (x : Nat) (k : Nat → Nat) : evaluated x k = k x := by
  cases x <;> rfl

/-- The power `x ** e` from bit `k - 1` of `e` down: square, and one more `x` for a 1. -/
def powLoopNat (P e : Nat) : Nat → Nat → Nat
  | 0, acc => acc
  | k + 1, acc =>
    let square := mulLoopNat P acc acc 128 0
    evaluated (if e.testBit k then stepNat P square else square) (powLoopNat P e k)

/-- A number times a bit, as a residue. -/
theorem ofNat_mul_bit (a b : Nat) {k : Nat} (hk : k < 128) :
    BitVec.ofNat 128 (a * (b / 2 ^ k % 2)) =
      if (BitVec.ofNat 128 b).getLsbD k then BitVec.ofNat 128 a else 0 := by
  rw [BitVec.getLsbD_ofNat, decide_eq_true hk, Bool.true_and, Nat.testBit_eq_decide_div_mod_eq]
  rcases Nat.mod_two_eq_zero_or_one (b / 2 ^ k) with h | h <;> simp [h]

/-- The step on numbers is the step on residues. -/
theorem ofNat_stepNat (P a : Nat) :
    BitVec.ofNat 128 (stepNat P a) = companionStep (BitVec.ofNat 128 P) (BitVec.ofNat 128 a) := by
  have hdouble : BitVec.ofNat 128 (2 * a) = BitVec.ofNat 128 a <<< 1 := by
    apply BitVec.eq_of_toNat_eq
    simp [Nat.shiftLeft_eq, Nat.mul_comm]
  calc BitVec.ofNat 128 (stepNat P a)
    _ = BitVec.ofNat 128 (2 * a) ^^^ BitVec.ofNat 128 (P * (a / 2 ^ 127 % 2)) := BitVec.ofNat_xor ..
    _ = companionStep (BitVec.ofNat 128 P) (BitVec.ofNat 128 a) := by
      rw [hdouble, ofNat_mul_bit P a (by decide), companionStep_eq]

/-- The product loop on numbers, as residues. -/
theorem ofNat_mulLoopNat (P a b acc : Nat) {k : Nat} (hk : k ≤ 128) :
    BitVec.ofNat 128 (mulLoopNat P a b k acc) =
      (companionStep (BitVec.ofNat 128 P))^[k] (BitVec.ofNat 128 acc) ^^^
        polyApplyLoop (BitVec.ofNat 128 b) (companionStep (BitVec.ofNat 128 P)) k 0 (BitVec.ofNat 128 a) := by
  induction k generalizing acc with
  | zero => simp [mulLoopNat, polyApplyLoop]
  | succ k ih =>
    have hterm : BitVec.ofNat 128 (Nat.xor (stepNat P acc) (Nat.mul a (Nat.mod (Nat.div b (2 ^ k)) 2))) =
        BitVec.ofNat 128 (stepNat P acc) ^^^ BitVec.ofNat 128 (a * (b / 2 ^ k % 2)) := BitVec.ofNat_xor ..
    rw [mulLoopNat, ih _ (by omega), hterm, ofNat_stepNat, ofNat_mul_bit a b (by omega),
      polyApplyLoop_horner (companionStep_linear _)]

/-- A square on numbers, as residues. -/
theorem ofNat_mulLoopNat_self (P a : Nat) :
    BitVec.ofNat 128 (mulLoopNat P a a 128 0) =
      polyApply (BitVec.ofNat 128 a) (companionStep (BitVec.ofNat 128 P)) (BitVec.ofNat 128 a) := by
  have h0 : (companionStep (BitVec.ofNat 128 P))^[128] (BitVec.ofNat 128 0) = 0 :=
    ((companionStep_linear _).iterate 128).map_zero
  rw [ofNat_mulLoopNat P a a 0 le_rfl, h0, polyApply]
  exact BitVec.zero_xor

/-- The power loop finishes the power of `x` whose upper bits it is given. -/
theorem ofNat_powLoopNat (P e k acc : Nat)
    (hacc : BitVec.ofNat 128 acc = (companionStep (BitVec.ofNat 128 P))^[e / 2 ^ k] 1) :
    BitVec.ofNat 128 (powLoopNat P e k acc) = (companionStep (BitVec.ofNat 128 P))^[e] 1 := by
  induction k generalizing acc with
  | zero => rwa [Nat.pow_zero, Nat.div_one] at hacc
  | succ k ih =>
    have hhalf : e / 2 ^ (k + 1) = e / 2 ^ k / 2 := by rw [Nat.pow_succ, Nat.div_div_eq_div_mul]
    have hsquare := ofNat_mulLoopNat_self P acc
    rw [hacc, polyApply_iterate_companionStep, hhalf] at hsquare
    rw [powLoopNat, evaluated_eq]
    refine ih _ ?_
    rw [Nat.testBit_eq_decide_div_mod_eq]
    rcases Nat.mod_two_eq_zero_or_one (e / 2 ^ k) with h | h
    · rw [h, if_neg (by decide), hsquare, show e / 2 ^ k / 2 + e / 2 ^ k / 2 = e / 2 ^ k by omega]
    · rw [h, if_pos (by decide), ofNat_stepNat, hsquare, ← Function.iterate_succ_apply' (companionStep _),
        show (e / 2 ^ k / 2 + e / 2 ^ k / 2).succ = e / 2 ^ k by omega]

/-- A power of `x`, evaluated. -/
theorem companionStep_iterate_eq_powLoopNat (P : Nat) {e : Nat} (he : e < 2 ^ 128) :
    (companionStep (BitVec.ofNat 128 P))^[e] 1 = BitVec.ofNat 128 (powLoopNat P e 128 1) := by
  refine (ofNat_powLoopNat P e 128 1 ?_).symm
  rw [Nat.div_eq_of_lt he]
  rfl

end Residues

/-! ### Residues modulo `P_REF` -/

/-- Times `x` is linear. -/
theorem polyMulX_linear : Linear polyMulX := companionStep_linear pRefLow

/-- Horner's rule adds the terms of `b` in "times `x`". -/
theorem polyMulLoop_eq (a b acc : Block) (k : Nat) :
    polyMulLoop a b k acc = polyMulX^[k] acc ^^^ polyApplyLoop b polyMulX k 0 a := by
  induction k generalizing acc with
  | zero => simp [polyMulLoop, polyApplyLoop]
  | succ k ih =>
    rw [polyMulLoop, ih, polyApplyLoop_horner polyMulX_linear]

/-- The model's product of residues is the product above. -/
theorem polyMul_eq_polyApply (a b : Block) : polyMul a b = polyApply b polyMulX a := by
  rw [polyMul, polyMulLoop_eq, (polyMulX_linear.iterate 128).map_zero, polyApply]
  simp

/-- In a product of powers of `x` the exponents add. -/
theorem polyMul_iterate (i j : Nat) :
    polyMul (polyMulX^[i] 1) (polyMulX^[j] 1) = polyMulX^[i + j] 1 := by
  rw [polyMul_eq_polyApply]
  exact polyApply_iterate_companionStep pRefLow i j

/-- Square and multiply from a running power and a result so far. -/
theorem polyPowLoop_iterate (fuel e i j : Nat) (he : e < 2 ^ fuel) :
    polyPowLoop fuel e (polyMulX^[i] 1) (polyMulX^[j] 1) = polyMulX^[j + i * e] 1 := by
  induction fuel generalizing e i j with
  | zero =>
    obtain rfl : e = 0 := by simpa using he
    rfl
  | succ fuel ih =>
    rw [polyPowLoop, polyMul_iterate, polyMul_iterate]
    rcases Nat.mod_two_eq_zero_or_one e with h | h
    · rw [if_neg (by omega), ih _ _ _ (by omega), Nat.add_mul, ← Nat.mul_add,
        show e / 2 + e / 2 = e by omega]
    · rw [if_pos h, ih _ _ _ (by omega), Nat.add_mul, ← Nat.mul_add, Nat.add_assoc]
      conv => rhs; rw [show e = 1 + (e / 2 + e / 2) by omega, Nat.mul_add, Nat.mul_one]

/-- A power of the residue `x` is that many times `x` (R91). -/
theorem polyPow_polyX (e : Nat) : polyPow polyX e = polyMulX^[e] 1 := by
  have hX : polyX = polyMulX^[1] 1 := by decide
  rw [polyPow, hX]
  simpa using polyPowLoop_iterate e.size e 1 0 (Nat.lt_size_self e)

/-! ### The closed form -/

/-- A bit of the low half (00_scope R9). -/
@[simp] theorem getLsbD_loWord (x : Block) {i : Nat} (hi : i < 64) : (loWord x).getLsbD i = x.getLsbD i := by
  simp [loWord, hi]

/-- A bit of the high half (R9). -/
@[simp] theorem getLsbD_hiWord (x : Block) {i : Nat} (hi : i < 64) :
    (hiWord x).getLsbD i = x.getLsbD (64 + i) := by
  simp [hiWord, hi]

/-- A bit in the low half of a joined value. -/
theorem getLsbD_joinWords_low (hi lo : Word) {i : Nat} (h : i < 64) :
    (joinWords hi lo).getLsbD i = lo.getLsbD i := by
  rw [joinWords, BitVec.getLsbD_append]
  simp [h]

/-- A bit in the high half of a joined value. -/
theorem getLsbD_joinWords_high (hi lo : Word) (i : Nat) :
    (joinWords hi lo).getLsbD (64 + i) = hi.getLsbD i := by
  rw [joinWords, BitVec.getLsbD_append]
  simp

/-- The closed form on joined halves (40_transition R83). -/
theorem transition_joinWords (hi lo : Word) :
    transition (joinWords hi lo) =
      joinWords (rotl (lo ^^^ hi) Config.rotC)
        (rotl lo Config.rotA ^^^ (lo ^^^ hi) ^^^ ((lo ^^^ hi) <<< Config.shlB)) := by
  simp only [transition, loWord_joinWords, hiWord_joinWords]

/-- A left rotation undoes the right one (00_scope R10). -/
theorem rotl_rotr {w : Nat} (a : BitVec w) {k : Nat} (hk : k < w) : rotl (rotr a k) k = a := by
  apply BitVec.eq_of_getLsbD_eq
  intro i hi
  have hw : 0 < w := by omega
  rw [rotr, rotl_getLsbD _ _ _ hk hi, rotl_getLsbD _ _ _ (Nat.mod_lt _ hw) (Nat.mod_lt _ hw)]
  congr 1
  by_cases h0 : k = 0
  · simp [h0, Nat.mod_eq_of_lt hi]
  · rw [Nat.mod_eq_of_lt (show w - k < w by omega), show w - (w - k) = k by omega, Nat.mod_add_mod,
      show i + (w - k) + k = i + w by omega, Nat.add_mod_right, Nat.mod_eq_of_lt hi]

/-- A bit of the shifted word of the closed form; the low 21 are 0 (R84). -/
theorem getLsbD_shift_halves (x : Block) {i : Nat} (hi : i < 64) :
    ((loWord x ^^^ hiWord x) <<< Config.shlB).getLsbD i =
      (decide (21 ≤ i) && (x.getLsbD (i - 21) ^^ x.getLsbD (64 + i - 21))) := by
  rw [BitVec.getLsbD_shiftLeft, Config.shlB]
  by_cases h : 21 ≤ i
  · rw [BitVec.getLsbD_xor, getLsbD_loWord x (by omega), getLsbD_hiWord x (by omega), Nat.add_sub_assoc h]
    simp [hi, h]
  · simp [h, show i < 21 by omega]

/-- Two values XORed in twice cancel. -/
theorem xor_xor_cancel {w : Nat} (p t u : BitVec w) : p ^^^ t ^^^ u ^^^ t ^^^ u = p := by
  rw [BitVec.xor_assoc p t u, BitVec.xor_assoc, BitVec.xor_assoc, BitVec.xor_self, BitVec.xor_zero]

/-- `f` undoes `f_inv` (R88). -/
theorem transition_transitionInv (y : Block) : transition (transitionInv y) = y := by
  have hC (a : Word) : rotl (rotr a Config.rotC) Config.rotC = a := rotl_rotr a (by decide)
  have hA (a : Word) : rotl (rotr a Config.rotA) Config.rotA = a := rotl_rotr a (by decide)
  have hmid (t lo : Word) : lo ^^^ (t ^^^ lo) = t := by
    rw [BitVec.xor_comm t, ← BitVec.xor_assoc, BitVec.xor_self, BitVec.zero_xor]
  rw [transitionInv, transition_joinWords, hmid, hC, hA, xor_xor_cancel, joinWords_hiWord_loWord]

/-! ### The family of the closed form (R98, R99) -/

/-- Rotations are linear (R83). -/
theorem rotl_xor {w k : Nat} (hk : k < w) (a b : BitVec w) : rotl (a ^^^ b) k = rotl a k ^^^ rotl b k :=
  BitVec.eq_of_getLsbD_eq fun i hi => by
    rw [BitVec.getLsbD_xor, rotl_getLsbD _ _ _ hk hi, rotl_getLsbD _ _ _ hk hi, rotl_getLsbD _ _ _ hk hi,
      BitVec.getLsbD_xor]

section Family

variable {w a c : Nat}

/-- Every member of the family is linear (R83). -/
theorem familyStep_linear (ha : a < w) (b : Nat) (hc : c < w) : Linear (familyStep w a b c) := by
  intro x y
  have hlo : loHalf (x ^^^ y) = loHalf x ^^^ loHalf y := BitVec.extractLsb'_xor
  have hhi : hiHalf (x ^^^ y) = hiHalf x ^^^ hiHalf y := BitVec.extractLsb'_xor
  have ht : loHalf x ^^^ loHalf y ^^^ (hiHalf x ^^^ hiHalf y) =
      loHalf x ^^^ hiHalf x ^^^ (loHalf y ^^^ hiHalf y) := by ac_rfl
  simp only [familyStep, hlo, hhi, ht, rotl_xor ha, rotl_xor hc, BitVec.shiftLeft_xor_distrib,
    BitVec.xor_append]
  congr 1
  ac_rfl

/-- The low half of a joined value. -/
theorem loHalf_append (hi lo : BitVec w) : loHalf (hi ++ lo) = lo :=
  BitVec.eq_of_getLsbD_eq fun i h => by
    rw [loHalf, BitVec.getLsbD_extractLsb', BitVec.getLsbD_append]
    simp [h]

/-- The high half of a joined value. -/
theorem hiHalf_append (hi lo : BitVec w) : hiHalf (hi ++ lo) = hi :=
  BitVec.eq_of_getLsbD_eq fun i h => by
    rw [hiHalf, BitVec.getLsbD_extractLsb', BitVec.getLsbD_append]
    simp [h]

/-- A value is its two halves. -/
theorem hiHalf_append_loHalf (x : BitVec (w + w)) : hiHalf x ++ loHalf x = x :=
  (BitVec.extractLsb'_append_extractLsb'_eq_extractLsb' (Nat.zero_add w).symm).trans
    BitVec.extractLsb'_eq_self

/-- The inverse undoes every member of the family (R99). -/
theorem familyInv_familyStep (ha : a < w) (b : Nat) (hc : c < w) (x : BitVec (w + w)) :
    familyInv w a b c (familyStep w a b c x) = x := by
  have hhi (lo hi : BitVec w) : lo ^^^ hi ^^^ lo = hi := by
    rw [BitVec.xor_comm lo, BitVec.xor_assoc, BitVec.xor_self, BitVec.xor_zero]
  simp only [familyInv, familyStep, loHalf_append, hiHalf_append, rotr_rotl _ ha, rotr_rotl _ hc, xor_xor_cancel, hhi,
    hiHalf_append_loHalf]

end Family

/-- The transition is the family's member with 64-bit words and the constants of R7. -/
theorem transition_eq_familyStep : transition = familyStep 64 49 21 28 := rfl

/-- The transition is linear (R82 (a), R87). -/
theorem transition_linear : Linear transition := by
  rw [transition_eq_familyStep]
  exact familyStep_linear (w := 64) (by decide) 21 (by decide)

/-- The transition loses nothing (R88). -/
theorem transition_injective : Function.Injective transition :=
  Function.LeftInverse.injective transitionInv_transition

/-! ### The prime factors of the period -/

/-- A prime that divides a product of listed primes is one of them. -/
theorem mem_of_prime_dvd_prod {L : List Nat} (hL : ∀ p ∈ L, p.Prime) {q : Nat} (hq : q.Prime)
    (hd : q ∣ L.prod) : q ∈ L :=
  mem_list_primes_of_dvd_prod hq.prime (fun p hp => (hL p hp).prime) hd

/-- `67280421310721` is prime, by Lucas's test to the base 3: the prime factors of its predecessor are 2, 5, 47,
373 and 2998279 (40_transition R95). -/
theorem prime_67280421310721 : Nat.Prime 67280421310721 := by
  have hfactors (q : Nat) (hq : q.Prime) (hd : q ∣ 67280421310721 - 1) : q ∈ [2, 5, 47, 373, 2998279] := by
    rw [show 67280421310721 - 1 = 2 ^ 8 * [5, 47, 373, 2998279].prod by norm_num, hq.dvd_mul] at hd
    obtain hd | hd := hd
    · exact List.mem_cons.mpr (.inl ((Nat.prime_dvd_prime_iff_eq hq Nat.prime_two).mp (hq.dvd_of_dvd_pow hd)))
    · exact List.mem_cons.mpr (.inr (mem_of_prime_dvd_prod (by norm_num) hq hd))
  refine lucas_primality _ 3 (by reduce_mod_char) fun q hq hd => ?_
  have hmem := hfactors q hq hd
  simp only [List.mem_cons, List.not_mem_nil, or_false] at hmem
  obtain rfl | rfl | rfl | rfl | rfl := hmem
  all_goals
    simp only [Nat.reduceSub, Nat.reduceDiv]
    reduce_mod_char
    decide

/-- The nine numbers of R95 are prime. -/
theorem primes_prime : ∀ q ∈ Verifier.primes, q.Prime := by
  simp only [Verifier.primes, List.forall_mem_cons]
  exact ⟨by norm_num, by norm_num, by norm_num, by norm_num, by norm_num, by norm_num, by norm_num, by norm_num,
    prime_67280421310721, by simp⟩

/-- The nine numbers of R95 multiply to the period. -/
theorem primes_prod : Verifier.primes.prod = Config.period := by decide

/-- Every prime factor of the period is listed (R95). -/
theorem mem_primes_of_dvd_period {q : Nat} (hq : q.Prime) (hd : q ∣ Config.period) : q ∈ Verifier.primes :=
  mem_of_prime_dvd_prod primes_prime hq (primes_prod ▸ hd)

/-! ### The order of `x` modulo `P_REF`, and the one cycle of the transition -/

/-- A power of `x` modulo `P_REF`, evaluated. -/
theorem polyMulX_iterate_eq_powLoopNat {e : Nat} (he : e < 2 ^ 128) :
    polyMulX^[e] 1 = BitVec.ofNat 128 (powLoopNat pRef.toNat e 128 1) := by
  have hm : pRefLow = BitVec.ofNat 128 pRef.toNat := by decide
  rw [polyMulX_eq_companionStep, hm, companionStep_iterate_eq_powLoopNat _ he]

/-- `x ** (2**128 - 1)` is 1 modulo `P_REF` (R91). -/
theorem polyMulX_iterate_period : polyMulX^[Config.period] 1 = 1 := by
  rw [polyMulX_iterate_eq_powLoopNat (by decide)]
  decide +kernel

/-- The evaluations behind the next lemma. -/
theorem powLoopNat_period_div_ne_one :
    ∀ q ∈ Verifier.primes, BitVec.ofNat 128 (powLoopNat pRef.toNat (Config.period / q) 128 1) ≠ 1 := by
  decide +kernel

/-- For no listed prime `q` is `x ** ((2**128 - 1) / q)` equal to 1 modulo `P_REF` (R91). -/
theorem polyMulX_iterate_period_div_ne_one {q : Nat} (hq : q ∈ Verifier.primes) :
    polyMulX^[Config.period / q] 1 ≠ 1 := by
  rw [polyMulX_iterate_eq_powLoopNat ((Nat.div_le_self _ _).trans_lt (by decide))]
  exact powLoopNat_period_div_ne_one q hq

/-- The powers of `x` modulo `P_REF` are all nonzero residues: `P_REF` is primitive (R91). -/
theorem polyMulX_oneCycle : OneCycle polyMulX := by
  refine oneCycle_of_minimalPeriod polyMulX_linear.map_zero (x := 1) (by decide) ?_
  exact minimalPeriod_eq_of_primes polyMulX_iterate_period fun q hq hd =>
    polyMulX_iterate_period_div_ne_one (mem_primes_of_dvd_period hq hd)

/-- The value at `v` is linear in the residue. -/
theorem polyApply_linear_left (f : Block → Block) (v : Block) : Linear fun a : Block => polyApply a f v :=
  fun a b => polyApplyLoop_xor a b f 128 0 v

/-- All nonzero states lie on one cycle: `P_REF` annihilates the state 1, so the residue `a` stands for the state
`a(f)(1)` and times `x` for `f` (R89 (c), R91). -/
theorem transition_oneCycle : OneCycle transition := by
  have hP : transition^[128] 1 = polyApply pRefLow transition 1 := by decide +kernel
  have hsemi := polyApply_companionStep transition_linear (by decide) hP
  refine polyMulX_oneCycle.of_semiconj polyMulX_linear.map_zero transition_injective transition_linear.map_zero
    (polyApply_linear_left transition 1) hsemi (x := 1) ?_
  exact (polyApply_one transition (by decide) 1).trans_ne (by decide)

/-- The model's iterate is the library's. -/
theorem iterateF_eq_iterate (p : Params) (k : Nat) (x : Block) : iterateF p k x = p.f^[k] x := by
  induction k generalizing x with
  | zero => rfl
  | succ k ih => exact ih (p.f x)

/-! ### The matrix of the transition and the order check -/

/-- The matrix made from `f` is the printed table (R85, R92). -/
theorem ofFunction_transition : Mat.ofFunction transition = aRef := by decide +kernel

/-- The printed table has 128 rows. -/
theorem aRef_wf : aRef.wf = true := ofFunction_transition ▸ ofFunction_wf transition

/-- The closed form is the product with the printed table (R86). -/
theorem aRef_mulVec : aRef.mulVec = transition := by
  rw [← ofFunction_transition, ofFunction_mulVec transition_linear]

/-- The order of a matrix, told by its map. -/
theorem hasOrder_iff {n N : Nat} {A : Mat n} (hA : A.wf = true) :
    A.HasOrder N ↔ ∀ k, A.mulVec^[k] = id ↔ N ∣ k :=
  forall_congr' fun k => iff_congr (pow_eq_identity_iff hA k) Iff.rfl

/-- A linear map with one cycle has a matrix of order `2^n - 1`. -/
theorem OneCycle.hasOrder {n : Nat} {A : Mat n} (h : OneCycle A.mulVec) (hA : A.wf = true) (hn : 0 < n) :
    A.HasOrder (2 ^ n - 1) :=
  (hasOrder_iff hA).mpr (h.iterate_eq_id_iff (mulVec_linear A).map_zero hn)

/-- `A_REF` has the order `2**128 - 1` (R97). -/
theorem aRef_hasOrder : aRef.HasOrder Config.period :=
  OneCycle.hasOrder (aRef_mulVec ▸ transition_oneCycle) aRef_wf (by decide)

/-- `A_REF` has full rank (R97). -/
theorem rank_aRef : Verifier.rank aRef = 128 := by decide +kernel

/-- Test (i) is a statement about the power. -/
theorem identityCheck_iff {n N : Nat} {A : Mat n} :
    Verifier.identityCheck N A = true ↔ A.pow N = Mat.identity n :=
  beq_iff_eq

/-- Test (ii) is a statement about the powers. -/
theorem primeCheck_iff {n N : Nat} {ps : List Nat} {A : Mat n} :
    Verifier.primeCheck N ps A = true ↔ ∀ p ∈ ps, A.pow (N / p) ≠ Mat.identity n := by
  simp [Verifier.primeCheck]

/-- The check is its three parts (R94, R95). -/
theorem check_iff {n N : Nat} {ps : List Nat} {A : Mat n} :
    Verifier.check N ps A = true ↔
      Verifier.rank A = n ∧ A.pow N = Mat.identity n ∧ ∀ p ∈ ps, A.pow (N / p) ≠ Mat.identity n := by
  rw [Verifier.check, Bool.and_eq_true, Bool.and_eq_true, beq_iff_eq, identityCheck_iff, primeCheck_iff, and_assoc]

/-- Test (i) fails of a matrix whose map does not bring some value back (R98). -/
theorem identityCheck_eq_false {n N : Nat} {A : Mat n} (hA : A.wf = true) {v : BitVec n}
    (hv : A.mulVec^[N] v ≠ v) : Verifier.identityCheck N A = false := by
  rw [Bool.eq_false_iff, Ne, identityCheck_iff, pow_eq_identity_iff hA]
  exact fun h => hv (congrFun h v)

/-- A power of a power of `A_REF` is the identity when the exponents' product is a multiple of the period. -/
theorem aRef_pow_pow_eq_identity_iff (j k : Nat) :
    (aRef.pow j).pow k = Mat.identity 128 ↔ Config.period ∣ j * k := by
  rw [pow_eq_identity_iff (pow_wf aRef_wf j), pow_mulVec aRef_wf, ← Function.iterate_mul]
  exact (hasOrder_iff aRef_wf).mp aRef_hasOrder (j * k)

/-! ### Negative controls -/

/-- A step of `A_REF` with entry `[i][j]` flipped (R98). -/
def flippedStep (i j : Nat) (x : Block) : Block :=
  transition x ^^^ (if x.getLsbD j then BitVec.twoPow 128 i else 0)

/-- The flipped matrix multiplies as the flipped step does. -/
theorem flip_aRef_mulVec {i j : Nat} (hi : i < 128) (hj : j < 128) :
    (aRef.flip i j).mulVec = flippedStep i j := by
  funext x
  rw [flip_mulVec aRef_wf hi hj, aRef_mulVec]
  rfl

/-- Where the polynomial with the bits of `P`, of degree 128, annihilates the state 1 under `f`, an iterate of `f`
there is the power of `x`, evaluated modulo `P` and applied to it. The premise is written without the term `x^128`,
which `BitVec.ofNat` drops. -/
theorem iterate_one_eq_polyApply_powLoopNat {f : Block → Block} (hf : Linear f) {P : Nat}
    (hP : f^[128] 1 = polyApply (BitVec.ofNat 128 P) f 1) {N : Nat} (hN : N < 2 ^ 128) :
    f^[N] 1 = polyApply (BitVec.ofNat 128 (powLoopNat P N 128 1)) f 1 := by
  have hstep := ((polyApply_companionStep hf (by decide) hP).iterate_right N).eq 1
  rw [polyApply_one f (by decide)] at hstep
  rw [← companionStep_iterate_eq_powLoopNat P hN, ← hstep]

/-- Test (i) fails of `A_REF` with an entry flipped, by the power `x ** N` modulo a polynomial that annihilates the
state 1. -/
theorem identityCheck_flip_eq_false {i j : Nat} (hi : i < 128) (hj : j < 128) (P : Nat)
    (hP : (flippedStep i j)^[128] 1 = polyApply (BitVec.ofNat 128 P) (flippedStep i j) 1)
    (hne : polyApply (BitVec.ofNat 128 (powLoopNat P Config.period 128 1)) (flippedStep i j) 1 ≠ 1) :
    Verifier.identityCheck Config.period (aRef.flip i j) = false := by
  have hlin : Linear (flippedStep i j) := flip_aRef_mulVec hi hj ▸ mulVec_linear _
  refine identityCheck_eq_false (flip_wf aRef_wf i j) (v := 1) ?_
  rwa [flip_aRef_mulVec hi hj, iterate_one_eq_polyApply_powLoopNat hlin hP (by decide)]

/-- Test (i) fails of a member of the family that brings some state back after 6 steps but not after 3: the period
leaves the remainder 3 by 6. -/
theorem identityCheck_family_eq_false {a b c : Nat} (ha : a < 64) (hc : c < 64) (v : Block)
    (h6 : (familyStep 64 a b c)^[6] v = v) (h3 : (familyStep 64 a b c)^[3] v ≠ v) :
    Verifier.identityCheck Config.period (Mat.ofFunction (n := 128) (familyStep 64 a b c)) = false := by
  refine identityCheck_eq_false (ofFunction_wf _) (v := v) ?_
  rw [ofFunction_mulVec (familyStep_linear ha b hc), ← IsPeriodicPt.iterate_mod_apply h6]
  exact h3

/-! ### The 16-bit analog (R99) -/

/-- The analog is linear. -/
theorem analog16_linear : Linear analog16 :=
  familyStep_linear (w := 8) (a := 2) (c := 5) (by decide) 5 (by decide)

/-- The analog's iterates, as powers of its matrix. -/
theorem analog16_iterate (k : Nat) : analog16^[k] = ((Mat.ofFunction analog16).pow k).mulVec := by
  rw [pow_mulVec (ofFunction_wf analog16), ofFunction_mulVec analog16_linear]

/-- The analog has one cycle: the state 1 has the period 65535. -/
theorem analog16_oneCycle : OneCycle analog16 := by
  have hfactors (q : Nat) (hq : q.Prime) (hd : q ∣ 65535) : q ∈ [3, 5, 17, 257] :=
    mem_of_prime_dvd_prod (by norm_num) hq hd
  have hone : ((Mat.ofFunction analog16).pow 65535).mulVec 1 = 1 := by decide +kernel
  have hne : ∀ q ∈ [3, 5, 17, 257], ((Mat.ofFunction analog16).pow (65535 / q)).mulVec 1 ≠ 1 := by
    decide +kernel
  refine oneCycle_of_minimalPeriod analog16_linear.map_zero (x := 1) (by decide)
    (minimalPeriod_eq_of_primes ?_ fun q hq hd => ?_)
  · rw [analog16_iterate]
    exact hone
  · rw [analog16_iterate]
    exact hne q (hfactors q hq hd)

/-- With 4-bit words the state 1 returns too early, whatever the constants. -/
theorem familyStep4_returns_early :
    ∀ a ∈ [1, 2, 3], ∀ b ∈ [1, 2, 3], ∀ c ∈ [1, 2, 3], ∃ k ∈ [62, 105, 120, 217],
      (familyStep 4 a b c)^[k] 1 = 1 := by decide +kernel

/-! ### The combiner is not affine (41_output R116) -/

/-- An affine output bit has no second difference. -/
theorem AffineOutputBit.second_difference {g : Block → Word} {k : Nat} (h : AffineOutputBit g k) (x y : Block) :
    (g (x ^^^ y)).getLsbD k = ((g x).getLsbD k ^^ (g y).getLsbD k ^^ (g 0).getLsbD k) := by
  obtain ⟨mask, c, h⟩ := h
  have h0 : parity (mask &&& 0) = false := by simp
  rw [h, h, h, h, parity_and_xor, h0]
  cases c <;> simp

/-- A high half whose rotated bit lies just below bit `k` of the second sum (just below bit 47 of the first sum, the
source of output bit 0, for `k = 0`). -/
def carryHi (k : Nat) : Block := BitVec.twoPow 128 (64 + (k + 46) % 64)

/-- The low half that makes a carry of it. -/
def carryLo (k : Nat) : Block := BitVec.twoPow 128 (if k = 0 then 46 else k - 1)

/-- The two together carry into output bit `k`; neither reaches it alone. -/
theorem combine_carry : ∀ k < 64,
    (combine (carryHi k ^^^ carryLo k)).getLsbD k = true ∧ (combine (carryHi k)).getLsbD k = false ∧
    (combine (carryLo k)).getLsbD k = false ∧ (combine 0).getLsbD k = false := by
  decide +kernel

/-- No output bit of the combiner is affine (R116). -/
theorem combine_not_affine (k : Nat) (hk : k < 64) : ¬ AffineOutputBit combine k := by
  intro h
  obtain ⟨hboth, hhi, hlo, hzero⟩ := combine_carry k hk
  have hdiff := h.second_difference (carryHi k) (carryLo k)
  rw [hboth, hhi, hlo, hzero] at hdiff
  exact absurd hdiff (by decide)

/-! ### The obligations -/

/-- Settles O28: linearity, order and rank of the transition, the carries of the combiner; the policy plays no
part. -/
theorem hardwareParametersAreAdmissible : Obligations.HardwareParametersAreAdmissible := by
  have hrank : Verifier.rank (Mat.ofFunction transition) = 128 := ofFunction_transition ▸ rank_aRef
  have horder : (Mat.ofFunction transition).HasOrder Config.period := ofFunction_transition ▸ aRef_hasOrder
  exact ⟨⟨transition_linear, hrank, horder, combine_not_affine, by decide⟩,
    ⟨transition_linear, hrank, horder, combine_not_affine, by decide⟩⟩

/-- Settles O29. -/
theorem transitionClosedForm : Obligations.TransitionClosedForm :=
  ⟨transition_joinWords, transition_linear.map_zero, by decide⟩

/-- Settles O30: the bits of the two halves, a rotation's bit by its index. -/
theorem transitionBitFormulas : Obligations.TransitionBitFormulas := by
  intro x i hi
  have hmod (k : Nat) : (i + k) % 64 < 64 := Nat.mod_lt _ (by decide)
  rw [← joinWords_hiWord_loWord x, transition_joinWords, joinWords_hiWord_loWord]
  constructor
  · rw [getLsbD_joinWords_low _ _ hi, BitVec.getLsbD_xor, BitVec.getLsbD_xor, BitVec.getLsbD_xor,
      rotl_getLsbD _ _ _ (by decide) hi, getLsbD_loWord x (hmod _), getLsbD_loWord x hi, getLsbD_hiWord x hi,
      getLsbD_shift_halves x hi]
    simp only [Config.rotA, Bool.xor_assoc]
  · rw [getLsbD_joinWords_high, rotl_getLsbD _ _ _ (by decide) hi, BitVec.getLsbD_xor, getLsbD_loWord x (hmod _),
      getLsbD_hiWord x (hmod _)]
    rfl

/-- Settles O31. -/
theorem transitionIsTheMatrixProduct : Obligations.TransitionIsTheMatrixProduct :=
  ⟨fun x => congrFun aRef_mulVec.symm x, fun x i hi => by rw [← aRef_mulVec, getLsbD_mulVec aRef x hi],
    ofFunction_transition⟩

/-- Settles O32. -/
theorem transitionIsLinear : Obligations.TransitionIsLinear := by
  refine ⟨transition_linear, transition_linear.map_zero, fun k x => ?_⟩
  rw [iterateF_eq_iterate, pow_mulVec aRef_wf, aRef_mulVec]
  rfl

/-- Settles O33. -/
theorem matrixPowersAreIterates : Obligations.MatrixPowersAreIterates := fun _ M K hM _ =>
  ⟨congrFun (mul_mulVec M K), fun e => congrFun (pow_mulVec hM e)⟩

/-- Settles O34. -/
theorem transitionInverseIsExact : Obligations.TransitionInverseIsExact :=
  ⟨transitionInv_transition, transition_transitionInv, by decide, by decide⟩

/-- Settles O35: a fixed state would return after one step. -/
theorem transitionFixesNoNonzeroState : Obligations.TransitionFixesNoNonzeroState := fun _ hx =>
  ⟨transition_ne_zero hx, fun h => absurd ((transition_oneCycle.iterate_eq_self_iff hx 1).mp h) (by decide)⟩

/-- Settles O36. -/
theorem everyNonzeroStateLiesOnOneCycle : Obligations.EveryNonzeroStateLiesOnOneCycle := by
  unfold Obligations.EveryNonzeroStateLiesOnOneCycle
  simp only [iterateF_eq_iterate]
  exact ⟨fun x hx => transition_oneCycle.iterate_eq_self_iff hx, fun x y hx hy =>
    exists_iterate_eq_of_minimalPeriod transition_linear.map_zero hx (transition_oneCycle x hx) hy⟩

/-- Settles O37: `P_REF` annihilates the state 1, hence every state on its cycle. -/
theorem referencePolynomialAnnihilates : Obligations.ReferencePolynomialAnnihilates := by
  intro x
  have hone : polyApply pRef transition 1 = 0 := by decide +kernel
  by_cases hx : x = 0
  · rw [hx]
    exact (polyApplyLoop_linear transition_linear pRef 129 0).map_zero
  · obtain ⟨k, -, rfl⟩ := exists_iterate_eq_of_minimalPeriod transition_linear.map_zero (x := 1) (by decide)
      (transition_oneCycle 1 (by decide)) hx
    rw [polyApply_iterate transition_linear, hone, (transition_linear.iterate k).map_zero]

/-- Settles O40: rank by evaluation, the powers by the order. -/
theorem verifierAcceptsTheTransition : Obligations.VerifierAcceptsTheTransition := by
  have hdiv : ∀ p ∈ Verifier.primes, ¬ Config.period ∣ Config.period / p := by decide
  rw [Obligations.VerifierAcceptsTheTransition, Verifier.accepts, ofFunction_transition, check_iff]
  exact ⟨rank_aRef, (aRef_hasOrder _).mpr dvd_rfl, fun p hp h => hdiv p hp ((aRef_hasOrder _).mp h)⟩

/-- Settles O41: the period of the identity map under composition with the matrix's map is the order. -/
theorem checkWithAllPrimesProvesTheOrder : Obligations.CheckWithAllPrimesProvesTheOrder := by
  intro n N ps A hA _ hps hcheck
  obtain ⟨-, hN, hdiv⟩ := check_iff.mp hcheck
  have hcomp (k : Nat) : (A.mulVec ∘ ·)^[k] id = A.mulVec^[k] := by
    induction k with
    | zero => rfl
    | succ k ih => rw [Function.iterate_succ_apply', ih, Function.iterate_succ']
  have hper : minimalPeriod (A.mulVec ∘ ·) id = N := by
    refine minimalPeriod_eq_of_primes ?_ fun q hq hd => ?_
    · rw [hcomp]
      exact (pow_eq_identity_iff hA N).mp hN
    · rw [hcomp]
      exact mt (pow_eq_identity_iff hA _).mpr (hdiv q (hps q hq hd))
  refine (hasOrder_iff hA).mpr fun k => ?_
  rw [← hcomp, ← hper]
  exact Function.isPeriodicPt_iff_minimalPeriod_dvd

/-- Settles O42: `A_REF` to the 274177 has the order `N / 274177`, and of the nine quotients `N / p` only the one
by 274177 is a multiple of it. -/
theorem sourcePrimeListIsNotEnough : Obligations.SourcePrimeListIsNotEnough := by
  have hseven : ∀ p ∈ Verifier.sourcePrimes, ¬ Config.period ∣ 274177 * (Config.period / p) := by decide
  have hcaught : (aRef.pow 274177).pow (Config.period / 274177) = Mat.identity 128 :=
    (aRef_pow_pow_eq_identity_iff _ _).mpr (by decide)
  refine ⟨?identity, ?sevenPrimes, ?ninePrimes, hcaught⟩
  case identity => exact identityCheck_iff.mpr ((aRef_pow_pow_eq_identity_iff _ _).mpr (dvd_mul_left _ _))
  case sevenPrimes =>
    exact primeCheck_iff.mpr fun p hp h => hseven p hp ((aRef_pow_pow_eq_identity_iff _ _).mp h)
  case ninePrimes =>
    rw [Bool.eq_false_iff, Ne, primeCheck_iff]
    exact fun h => h 274177 (by decide) hcaught

/-- Settles O43: the flipped matrices by their annihilating polynomials (found by Berlekamp-Massey, as `P_REF` in
R91), the other two by a state of period 6. -/
theorem negativeControlsFail : Obligations.NegativeControlsFail :=
  ⟨identityCheck_flip_eq_false (by decide) (by decide) 0x1ffd1db8278b00a7aa7520e949a64f1c1 (by decide +kernel)
      (by decide +kernel),
    identityCheck_flip_eq_false (by decide) (by decide) 0x1003e7d6b80e7669908e99e7fdfa57f21 (by decide +kernel)
      (by decide +kernel),
    identityCheck_family_eq_false (by decide) (by decide) 0x0781e0781e0781e047d1f47d1f47d1f4 (by decide)
      (by decide),
    identityCheck_family_eq_false (by decide) (by decide) 1 (by decide) (by decide)⟩

/-- Settles O44. -/
theorem smallModelHasOneCycle : Obligations.SmallModelHasOneCycle := by
  refine ⟨familyInv_familyStep (w := 8) (by decide) 5 (by decide), fun x hx =>
    analog16_oneCycle.iterate_eq_self_iff hx, fun a b c ha hb hc => ?_⟩
  obtain ⟨k, hk, hreturn⟩ := familyStep4_returns_early a ha b hb c hc
  have hrange : ∀ k ∈ [62, 105, 120, 217], 0 < k ∧ k < 255 := by decide
  exact ⟨1, by decide, k, (hrange k hk).1, (hrange k hk).2, hreturn⟩

/-- Settles O38: the powers of `x` as iterates, evaluated. -/
theorem referencePolynomialIsPrimitive : Obligations.ReferencePolynomialIsPrimitive := by
  unfold Obligations.ReferencePolynomialIsPrimitive
  simp only [polyPow_polyX]
  exact ⟨polyMulX_iterate_period, fun _ => polyMulX_iterate_period_div_ne_one⟩

/-- Settles O39. -/
theorem primeFactorsOfThePeriod : Obligations.PrimeFactorsOfThePeriod :=
  ⟨primes_prod, primes_prime, by decide, by decide⟩

end Sys2Proof.Machine

/-! SUPPORT. The proofs of the family 41_output: the combiner on two halves (R111) and the rotation undone, then
the obligations. That no output bit is affine stands with the transition's proofs (`combine_not_affine`). -/

namespace Sys2Proof.Machine

/-! ### Rotations -/

/-- The spec's rotation is the library's (00_scope R10). -/
theorem rotl_eq_rotateLeft {w : Nat} (a : BitVec w) {k : Nat} (hk : k < w) : rotl a k = a.rotateLeft k := by
  rw [BitVec.rotateLeft_def, Nat.mod_eq_of_lt hk, rotl]
  split
  · next h0 => simp [h0, BitVec.ushiftRight_eq_zero le_rfl]
  · rfl

/-- A rotation is undone by the rotation back, on either side of an equation. -/
theorem rotl_eq_iff {w : Nat} {a b : BitVec w} {k : Nat} (hk : k < w) : rotl a k = b ↔ a = rotr b k := by
  constructor
  · rintro rfl
    exact (rotr_rotl a hk).symm
  · rintro rfl
    exact rotl_rotr b hk

/-! ### The combiner on two halves -/

/-- The combiner of a value given by its halves (41_output R111). -/
theorem combine_joinWords (hi lo : Word) : combine (joinWords hi lo) = rotl (lo + hi) Config.rotR + lo := by
  simp only [combine, loWord_joinWords, hiWord_joinWords]

/-- The equation `g({hi, lo}) = v` solved for the high half: each stage of the combiner is undone (R115). -/
theorem combine_joinWords_eq_iff (v hi lo : Word) :
    combine (joinWords hi lo) = v ↔ hi = combinePreimageHi v lo :=
  calc combine (joinWords hi lo) = v
      ↔ rotl (lo + hi) Config.rotR + lo = v := by rw [combine_joinWords]
    _ ↔ rotl (lo + hi) Config.rotR = v - lo := eq_sub_iff_add_eq.symm
    _ ↔ lo + hi = rotr (v - lo) Config.rotR := rotl_eq_iff (by decide)
    _ ↔ hi + lo = rotr (v - lo) Config.rotR := by rw [add_comm]
    _ ↔ hi = combinePreimageHi v lo := eq_sub_iff_add_eq.symm

/-! ### The obligations -/

/-- Settles O45. -/
theorem combinerClosedForm : Obligations.CombinerClosedForm :=
  ⟨fun hi lo => (combine_joinWords hi lo).trans (congrArg (· + lo) (rotl_eq_rotateLeft _ (by decide))), by decide⟩

/-- Settles O47. -/
theorem combinerHasOnePreimagePerLowHalf : Obligations.CombinerHasOnePreimagePerLowHalf :=
  combine_joinWords_eq_iff

/-- Settles O48: for each bit a pair whose carry reaches it alone. -/
theorem noOutputBitIsAffine : Obligations.NoOutputBitIsAffine := combine_not_affine

/-- Settles O46: the seven values, evaluated (R113, R117). -/
theorem combinerCornerCases : Obligations.CombinerCornerCases :=
  ⟨by decide, by decide, by decide, by decide, by decide, by decide, by decide⟩

end Sys2Proof.Machine

/-! SUPPORT. The proofs of the family 42_commands: what a command reads and when it writes (R125), `SEED` by its
operand and policy (R127), save and restore (R132), and the output sequence after a seed (R131); then the
obligations. -/

namespace Sys2Proof.Machine

/-! ### What a command reads, and when it writes -/

/-- A command sees nothing of the response before it: it loads its own (R125). -/
theorem commandRule_with_RSP (p : Params) (i : Instr) (s : State) (r : RspReg) :
    commandRule p i { s with RSP := r } = commandRule p i s := by
  cases i with
  | nop _ => rfl
  | seed v =>
    cases h : storesSeed p (.seed v)
    · simp only [commandRule, seedRule_of_not_storesSeed h]
      rfl
    · obtain ⟨w, hw⟩ := exists_seedRule_of_storesSeed h
      simp only [commandRule, hw]
      rfl
  | next _ =>
    simp only [commandRule, nextRule]
    split <;> rfl
  | state _ =>
    simp only [commandRule, stateRule]
    split <;> rfl

/-- A command reads `S` and `VALID` only: in two states that agree on them its outcomes differ at most in what
the host will present (R125). -/
theorem commandRule_of_same_generator (p : Params) (i : Instr) {s s' : State} (hS : s.S = s'.S)
    (hV : s.VALID = s'.VALID) : commandRule p i s' = { commandRule p i s with host := s'.host } := by
  have hs' : s' = { s with RSP := s'.RSP, host := s'.host } := State.eq_of_fields hS.symm hV.symm rfl rfl
  calc commandRule p i s'
    _ = commandRule p i { s with RSP := s'.RSP, host := s'.host } := congrArg _ hs'
    _ = { commandRule p i { s with RSP := s'.RSP } with host := s'.host } := commandRule_with_host p i _ _
    _ = { commandRule p i s with host := s'.host } := by rw [commandRule_with_RSP]

/-- Two states that agree on `S` and `VALID` answer every list of commands alike (R125). -/
theorem runCommands_responses_of_same_generator (p : Params) (cs : List Instr) {s s' : State}
    (hS : s.S = s'.S) (hV : s.VALID = s'.VALID) : (runCommands p cs s).1 = (runCommands p cs s').1 := by
  induction cs generalizing s s' with
  | nil => rfl
  | cons i cs ih =>
    have h := commandRule_of_same_generator p i hS hV
    exact congrArg₂ List.cons (by rw [h]; rfl) (ih (by rw [h]) (by rw [h]))

/-- A command answers `OK`, or it raises a status and does nothing else (R125, 60_exceptions R146). -/
theorem commandRule_ok_or_raise (p : Params) (i : Instr) (s : State) :
    (commandRule p i s).RSP.status = .ok ∨ ∃ st, commandRule p i s = s.raise st := by
  cases i with
  | nop _ => exact .inl rfl
  | seed v =>
    obtain ⟨_, h⟩ | ⟨_, _, h⟩ | ⟨_, _, h⟩ := seedRule_cases p v s
    · exact .inl (congrArg (·.RSP.status) h)
    · exact .inr ⟨_, h⟩
    · exact .inl (congrArg (·.RSP.status) h)
  | next _ =>
    obtain ⟨_, h⟩ | ⟨_, h⟩ := nextRule_cases p s
    · exact .inl (congrArg (·.RSP.status) h)
    · exact .inr ⟨_, h⟩
  | state _ =>
    obtain ⟨_, h⟩ | ⟨_, h⟩ := stateRule_cases s
    · exact .inl (congrArg (·.RSP.status) h)
    · exact .inr ⟨_, h⟩

/-- A presented word runs as the command it encodes (R125; 30_encoding R57). -/
theorem exec_decode_encode (i : Instr) (s : State) :
    exec (decode (encode i)) s = .next (commandRule hardware i s) := by
  rw [decode_encode, exec_eq_commandRule]

/-! ### `SEED` of 0, `STATE`, and save and restore -/

/-- Under `REJECT` the zero seed is refused (R127). -/
theorem seedRule_zero_of_reject {p : Params} (hp : p.zeroSeedPolicy = .reject) (s : State) :
    seedRule p 0 s = s.raise .invalidSeed :=
  seedRule_of_not_storesSeed (by simp [storesSeed, zeroDetect, hp]) s

/-- Under `REMAP` the zero seed stores the fallback (R127). -/
theorem seedRule_zero_of_remap {p : Params} (hp : p.zeroSeedPolicy = .remap) (s : State) :
    seedRule p 0 s = (s.store p.fallbackState).respond .ok 0 := by
  obtain ⟨h0, _⟩ | ⟨_, hreject, _⟩ | ⟨_, _, hs⟩ := seedRule_cases p 0 s
  · exact absurd rfl h0
  · cases hp.symm.trans hreject
  · exact hs

/-- A seeded `STATE` answers the state (R129). -/
theorem stateRule_of_seeded {s : State} (h : s.VALID = true) : stateRule s = s.respond .ok s.S := if_pos h

/-- `STATE` answers `OK` in a seeded block only, and then the state (R129). -/
theorem seeded_of_stateRule_status {s : State} (h : (stateRule s).RSP.status = .ok) :
    s.VALID = true ∧ (stateRule s).RSP.data = s.S := by
  obtain ⟨hV, hs⟩ | ⟨_, hs⟩ := stateRule_cases s <;> rw [hs] at h ⊢
  · exact ⟨hV, rfl⟩
  · cases h

/-- A block seeded with the nonzero `S` of a seeded one answers every list of commands as that one does
(R132). -/
theorem runCommands_responses_of_restored (p : Params) (cs : List Instr) {s : State} (hV : s.VALID = true)
    (hS : s.S ≠ 0) (s' : State) : (runCommands p cs (seedRule p s.S s')).1 = (runCommands p cs s).1 := by
  rw [seedRule_of_ne_zero p hS]
  exact runCommands_responses_of_same_generator p cs rfl hV.symm

/-! ### The output sequence -/

/-- Commands that store no seed advance a seeded block once per `NEXT`, and the answers of the `NEXT` commands
are the outputs of the successive states (R131). -/
theorem runCommands_of_seeded (p : Params) (cs : List Instr) {s : State} (hV : s.VALID = true)
    (hcs : ∀ i ∈ cs, storesSeed p i = false) :
    (runCommands p cs s).2.S = iterateF p (countNext cs) s.S ∧
    (runCommands p cs s).2.VALID = true ∧
    nextData cs (runCommands p cs s).1 =
      (List.range (countNext cs)).map fun k => zextOutput (p.g (iterateF p (k + 1) s.S)) := by
  induction cs generalizing s with
  | nil => exact ⟨rfl, hV, rfl⟩
  | cons i cs ih =>
    obtain ⟨hi, hcs⟩ := List.forall_mem_cons.mp hcs
    have hV' : (commandRule p i s).VALID = true := by rw [commandRule_VALID, hV, Bool.true_or]
    specialize ih hV' hcs
    cases i with
    | nop _ => exact ih
    | seed v =>
      have hS : (commandRule p (.seed v) s).S = s.S := by
        rw [commandRule, seedRule_of_not_storesSeed hi, State.raise_S]
      rw [hS] at ih
      exact ih
    | state d =>
      have hS : (commandRule p (.state d) s).S = s.S := stateRule_S s
      rw [hS] at ih
      exact ih
    | next d =>
      have h : commandRule p (.next d) s = _ := nextRule_of_seeded p hV
      rw [h] at ih
      obtain ⟨hS, hvalid, hdata⟩ := ih
      rw [runCommands, h, countNext, List.range_succ_eq_map, List.map_cons, List.map_map]
      exact ⟨hS, hvalid, congrArg (_ :: ·) hdata⟩

/-! ### The obligations -/

/-- Settles O10: outcomes from states with the same generator differ in the host's inputs alone, and a command
that is not `OK` only raised its status. -/
theorem commandDependsOnStateAndWordOnly : Obligations.CommandDependsOnStateAndWordOnly := by
  refine ⟨fun i s s' hS hV => ?_, fun s => ?_⟩
  · have hsame := commandRule_of_same_generator hardware i hS hV
    refine ⟨_, _, exec_eq_commandRule i s, exec_eq_commandRule i s', by rw [hsame], by rw [hsame], by rw [hsame],
      commandRule_host _ _ _, commandRule_host _ _ _, fun h => ?_⟩
    obtain ⟨st, hraise⟩ := (commandRule_ok_or_raise hardware i s).resolve_left h
    rw [hraise]
    exact ⟨rfl, rfl⟩
  · obtain ⟨_, h⟩ | ⟨_, _, h⟩ | ⟨_, _, h⟩ := step_cases s <;> exact ⟨_, h⟩

/-- Settles O16. The state whose output is 0 is the transition's preimage of a value that the combiner wraps
to 0. -/
theorem nextAdvancesThenOutputs : Obligations.NextAdvancesThenOutputs := by
  refine ⟨fun d => decode_encode (.next d), fun d s hV => ?seeded, fun d s hV => ?unseeded,
    fun d s t ⟨hguard, _⟩ hV h => ?nonzero, ?zeroOutput, fun s hS hV => ?worked⟩
  case seeded => exact exec_eq_next_iff.mpr (nextRule_of_seeded hardware hV)
  case unseeded => exact exec_eq_next_iff.mpr (nextRule_of_unseeded hardware hV)
  case nonzero =>
    obtain rfl := exec_eq_next_iff.mp h
    rw [commandRule, nextRule_of_seeded hardware hV]
    exact ⟨transition_ne_zero (hguard.mp hV), extractLsb'_high_zextOutput _⟩
  case zeroOutput =>
    refine ⟨⟨transitionInv 0xfffffffffffffffe0000000000000001, true, RspReg.reset, []⟩, _, by decide, rfl,
      exec_eq_commandRule _ _, ?_⟩
    have hcombine : combine 0xfffffffffffffffe0000000000000001 = 0 := by decide
    show zextOutput (combine (transition (transitionInv _))) = 0
    rw [transition_transitionInv, hcombine]
    rfl
  case worked =>
    have hf : transition 0x2a = 0x00000002a0000000005400000540002a := by decide
    have hg : combine 0x00000002a0000000005400000540002a = 0x00594a80059400d2 := by decide
    refine ⟨_, exec_decode_encode (.next 0) s, ?_⟩
    rw [commandRule, nextRule_of_seeded hardware hV, hS]
    show transition 0x2a = _ ∧ _ ∧ Response.mk .ok (zextOutput (combine (transition 0x2a))) = _
    rw [hf, hg]
    exact ⟨rfl, hV, rfl⟩

/-- Settles O17: seeding with the answer is a restored state, whose list `[NEXT]` is answered alike. -/
theorem stateAnswersTheRawState : Obligations.StateAnswersTheRawState := by
  refine ⟨fun d => decode_encode (.state d), fun d s hV => ?seeded, fun d s hV => ?unseeded,
    fun v s hv => ?afterSeed, fun s s' ⟨hguard, _⟩ hV => ?restored,
    fun s ⟨hguard, _⟩ hst => ?nonzero, fun s hS hV => ?worked⟩
  case seeded => exact exec_eq_next_iff.mpr (stateRule_of_seeded hV)
  case unseeded => exact exec_eq_next_iff.mpr (stateRule_of_unseeded hV)
  case afterSeed =>
    rw [seedRule_of_ne_zero hardware hv]
    exact ⟨rfl, rfl⟩
  case restored =>
    rw [stateRule_of_seeded hV]
    have h := runCommands_responses_of_restored hardware [.next 0] hV (hguard.mp hV) s'
    exact List.head_eq_of_cons_eq h
  case nonzero =>
    obtain ⟨hV, hdata⟩ := seeded_of_stateRule_status hst
    rw [hdata]
    exact hguard.mp hV
  case worked =>
    refine ⟨_, exec_decode_encode (.state 0) s, ?_⟩
    rw [commandRule, stateRule_of_seeded hV, ← hS]
    exact ⟨rfl, rfl, hV⟩

/-- Settles O50: the sequence by induction on the commands, the three values after `SEED 42` evaluated. -/
theorem outputSequenceAfterSeed : Obligations.OutputSequenceAfterSeed := by
  refine ⟨fun p cs _ => runCommands_of_seeded p cs, fun s => ?_⟩
  calc (runCommands hardware [.seed 42, .next 0, .next 0, .next 0] s).1.map Response.data
    _ = 0 :: [1, 2, 3].map fun k => zextOutput (combine (iterateF hardware k 42)) := rfl
    _ = _ := by decide

/-- Settles O51: an `OK` answer is the nonzero `S` of a seeded block, and seeding with it restores what the
answers depend on. -/
theorem savedStateResumesTheSequence : Obligations.SavedStateResumesTheSequence := by
  rintro p s s' d ⟨hguard, _⟩ h
  obtain ⟨hV, hdata⟩ := seeded_of_stateRule_status (congrArg Response.status h)
  obtain rfl : s.S = d := hdata.symm.trans (congrArg Response.data h)
  have hS : s.S ≠ 0 := hguard.mp hV
  refine ⟨hS, seedRule_of_ne_zero p hS s', fun cs => ?_⟩
  rw [runCommands_responses_of_restored p cs hV hS]
  exact runCommands_responses_of_same_generator p cs (stateRule_S s).symm (by rw [stateRule_of_seeded hV]; rfl)

/-- Settles O14. -/
theorem nopAnswersOkAndChangesNothing : Obligations.NopAnswersOkAndChangesNothing :=
  ⟨fun d => decode_encode (.nop d), fun d => exec_eq_commandRule (.nop d),
    fun s hS hV => ⟨_, exec_decode_encode (.nop 0) s, rfl, hS, hV⟩⟩

/-- Settles O15: by the operand and the policy; what is stored is a nonzero operand or the nonzero fallback. -/
theorem seedStoresRefusesOrRemaps : Obligations.SeedStoresRefusesOrRemaps := by
  refine ⟨fun v => decode_encode (.seed v),
    fun v s hv => exec_eq_next_iff.mpr (seedRule_of_ne_zero hardware hv s),
    fun s => exec_eq_next_iff.mpr (seedRule_zero_of_reject (p := hardware) rfl s),
    fun p v s hv => seedRule_of_ne_zero p hv s, fun p s hp => seedRule_zero_of_reject hp s,
    fun p s hp => seedRule_zero_of_remap hp s,
    fun p v s hp => ?neverZero, rfl, rfl,
    fun s _ _ => ⟨_, exec_decode_encode (.seed 0x2a) s, rfl, rfl, rfl⟩,
    fun s hS hV => ⟨_, exec_decode_encode (.seed 0) s, rfl, hS, hV⟩⟩
  have hfallback : p.fallbackState ≠ 0 := by simpa [Params.wellFormed] using hp
  obtain ⟨hv, hs⟩ | ⟨_, _, hs⟩ | ⟨_, _, hs⟩ := seedRule_cases p v s <;> rw [hs]
  · exact .inr hv
  · exact .inl ⟨rfl, rfl⟩
  · exact .inr hfallback

end Sys2Proof.Machine

/-! SUPPORT. The proofs of the family 60_exceptions: the exact condition of each error status (R145) and the
blindness of every command to a failure before it (R146); then the obligations. -/

namespace Sys2Proof.Machine

/-! ### The conditions of the error statuses -/

/-- `INVALID_SEED` is the answer to the zero seed under `REJECT` and to nothing else (R145). -/
theorem commandRule_status_invalidSeed_iff (p : Params) (i : Instr) (s : State) :
    (commandRule p i s).RSP.status = .invalidSeed ↔ i = .seed 0 ∧ p.zeroSeedPolicy = .reject := by
  cases i with
  | nop _ => simp [commandRule, nopRule]
  | seed v =>
    obtain ⟨hv, h⟩ | ⟨hv, hp, h⟩ | ⟨_, hp, h⟩ := seedRule_cases p v s
    · exact iff_of_false (by simp [commandRule, h]) fun ⟨hi, _⟩ => hv (Instr.seed.inj hi)
    · exact iff_of_true (congrArg (·.RSP.status) h) ⟨congrArg Instr.seed hv, hp⟩
    · simp [commandRule, h, hp]
  | next _ => obtain ⟨_, h⟩ | ⟨_, h⟩ := nextRule_cases p s <;> simp [commandRule, h]
  | state _ => obtain ⟨_, h⟩ | ⟨_, h⟩ := stateRule_cases s <;> simp [commandRule, h]

/-- `NOT_SEEDED` is the answer to `NEXT` and `STATE` in an unseeded block and to nothing else (R145). -/
theorem commandRule_status_notSeeded_iff (p : Params) (i : Instr) (s : State) :
    (commandRule p i s).RSP.status = .notSeeded ↔
      (∃ d, i = .next d ∨ i = .state d) ∧ s.VALID = false := by
  cases i with
  | nop _ => simp [commandRule, nopRule]
  | seed v => obtain ⟨_, h⟩ | ⟨_, _, h⟩ | ⟨_, _, h⟩ := seedRule_cases p v s <;> simp [commandRule, h]
  | next _ => obtain ⟨hV, h⟩ | ⟨hV, h⟩ := nextRule_cases p s <;> simp [commandRule, h, hV]
  | state _ => obtain ⟨hV, h⟩ | ⟨hV, h⟩ := stateRule_cases s <;> simp [commandRule, h, hV]

/-! ### A failure is a raise, and a raise is not seen -/

/-- A command that fails raises a status and does nothing else (R146). -/
theorem exists_commandRule_eq_raise {p : Params} {i : Instr} {s : State}
    (h : (commandRule p i s).RSP.status ≠ .ok) : ∃ st, commandRule p i s = s.raise st :=
  (commandRule_ok_or_raise p i s).resolve_left h

/-- A command does what it would have done without the failure before it: the failure only loaded the
response register (R146). -/
theorem commandRule_raise (p : Params) (i : Instr) (s : State) (st : Status) :
    commandRule p i (s.raise st) = commandRule p i s :=
  commandRule_with_RSP p i s _

/-! ### The obligations -/

/-- Settles O19: the two exact conditions, and a failure is a raise, which answers data 0. -/
theorem failureConditionsAreComplete : Obligations.FailureConditionsAreComplete := by
  refine fun p i s => ⟨commandRule_status_invalidSeed_iff p i s, commandRule_status_notSeeded_iff p i s,
    fun hst => ?_⟩
  obtain ⟨st, hraise⟩ := exists_commandRule_eq_raise hst
  rw [hraise]
  exact ⟨rfl, rfl, rfl⟩

/-- Settles O20: the failure raised a status, and no command, the failed one included, sees that. -/
theorem failureLeavesNoTrace : Obligations.FailureLeavesNoTrace := by
  intro p i s hst
  obtain ⟨st, hraise⟩ := exists_commandRule_eq_raise hst
  have unseen (j : Instr) : commandRule p j (commandRule p i s) = commandRule p j s := by
    rw [hraise, commandRule_raise]
  exact ⟨by rw [hraise, State.raise_S], by rw [hraise, State.raise_VALID], unseen i, unseen⟩

/-- Settles O21: `INVALID_SEED` needs the policy `REJECT`, which leaves the two other statuses. -/
theorem remapNeverAnswersInvalidSeed : Obligations.RemapNeverAnswersInvalidSeed := by
  intro p i s hp
  have hne : (commandRule p i s).RSP.status ≠ .invalidSeed := by
    rw [Ne, commandRule_status_invalidSeed_iff, hp]
    simp
  refine ⟨hne, ?_⟩
  cases h : (commandRule p i s).RSP.status with
  | ok => exact .inl rfl
  | invalidSeed => exact absurd h hne
  | notSeeded => exact .inr rfl

end Sys2Proof.Machine

/-! SUPPORT. The proofs of the family 70_reset_and_hazards: edges that hold `rst` (R170), and an unseeded block
under commands that store no seed (R172); then the obligations. -/

namespace Sys2Proof.Machine

/-! ### Holding reset -/

/-- A run that begins with an edge with `rst = 1` goes on from the reset values (R170). -/
theorem core_run_succ_of_rst {s : State} {e : Edge} {rest : List Edge} (h : s.host = e :: rest)
    (hr : e.rst = true) (k : Nat) : core.run (k + 1) s = core.run k { State.reset with host := rest } :=
  core_run_succ_of_step (step_of_rst h hr) k

/-- Edges with `rst = 1` leave a block at its reset values there (R170). -/
theorem core_run_of_rst (es rest : List Edge) (hes : ∀ e ∈ es, e.rst = true) :
    core.run es.length { State.reset with host := es ++ rest } = .next { State.reset with host := rest } := by
  induction es with
  | nil => rfl
  | cons e es ih =>
    obtain ⟨he, hes⟩ := List.forall_mem_cons.mp hes
    exact (core_run_succ_of_rst rfl he es.length).trans (ih hes)

/-- No edge without `rst` unseeds a seeded block (R170). -/
theorem presented_rst_of_unseeding {s t : State} (h : step s = .next t) (hs : s.VALID = true)
    (ht : t.VALID = false) : s.presented.rst = true := by
  obtain ⟨hr, _⟩ | ⟨_, _, hstep⟩ | ⟨_, _, hstep⟩ := step_cases s
  · exact hr
  · obtain rfl := Host.Outcome.next.inj (hstep.symm.trans h)
    simp [hs] at ht
  · obtain rfl := Host.Outcome.next.inj (hstep.symm.trans h)
    simp [hs] at ht

/-! ### An unseeded block under commands that store no seed -/

section Unseeded

variable {p : Params} {i : Instr} {s : State}

/-- On an unseeded block a command that stores no seed writes no state (R172). -/
theorem commandRule_S_of_unseeded (hs : s.VALID = false) (hi : storesSeed p i = false) :
    (commandRule p i s).S = s.S := by
  cases i with
  | nop _ => rfl
  | seed v => rw [commandRule, seedRule_of_not_storesSeed hi, State.raise_S]
  | next _ => rw [commandRule, nextRule_of_unseeded p hs, State.raise_S]
  | state _ => exact stateRule_S s

/-- `NEXT` and `STATE` answer `(NOT_SEEDED, 0)` on an unseeded block (R172). -/
theorem commandRule_response_of_unseeded (hs : s.VALID = false) (hi : ∃ d, i = .next d ∨ i = .state d) :
    (commandRule p i s).response = ⟨.notSeeded, 0⟩ := by
  have hst : (commandRule p i s).RSP.status = .notSeeded :=
    (commandRule_status_notSeeded_iff p i s).mpr ⟨hi, hs⟩
  have hdata : (commandRule p i s).RSP.data = 0 := commandRule_rspInv p i s (by simp [hst])
  rw [State.response, hst, hdata]

/-- Over a list that stores no seed an unseeded block keeps its state, stays unseeded, and refuses each `NEXT`
and `STATE` (R172). -/
theorem runCommands_of_unseeded (cs : List Instr) (hs : s.VALID = false)
    (hcs : ∀ i ∈ cs, storesSeed p i = false) :
    (runCommands p cs s).2.S = s.S ∧ (runCommands p cs s).2.VALID = false ∧
    ∀ q ∈ cs.zip (runCommands p cs s).1, (∃ d, q.1 = .next d ∨ q.1 = .state d) → q.2 = ⟨.notSeeded, 0⟩ := by
  induction cs generalizing s with
  | nil => exact ⟨rfl, hs, fun _ hq => absurd hq List.not_mem_nil⟩
  | cons i cs ih =>
    obtain ⟨hi, hcs⟩ := List.forall_mem_cons.mp hcs
    have hs' : (commandRule p i s).VALID = false := by rw [commandRule_VALID, hs, hi, Bool.or_false]
    obtain ⟨hS, hV, hanswers⟩ := ih hs' hcs
    exact ⟨hS.trans (commandRule_S_of_unseeded hs hi), hV,
      List.forall_mem_cons.mpr ⟨commandRule_response_of_unseeded hs, hanswers⟩⟩

end Unseeded

/-! ### The obligations -/

/-- Settles O12: the first edge resets, the others hold it there, and no other kind of edge clears `VALID`. -/
theorem resetIsTheOnlyWayBackToUnseeded : Obligations.ResetIsTheOnlyWayBackToUnseeded := by
  refine ⟨fun s e rest => step_of_rst, fun es rest s hne hes => ?held,
    fun s t => presented_rst_of_unseeding, rfl⟩
  case held =>
    obtain ⟨e, es, rfl⟩ := List.exists_cons_of_ne_nil hne
    obtain ⟨he, hes⟩ := List.forall_mem_cons.mp hes
    exact (core_run_succ_of_rst rfl he es.length).trans (core_run_of_rst es rest hes)

/-- Settles O52: the refusals by induction on the commands, and a `SEED` stores by its operand or the policy. -/
theorem nothingWorksBeforeTheFirstSeed : Obligations.NothingWorksBeforeTheFirstSeed := by
  refine ⟨fun p cs s => runCommands_of_unseeded cs, fun p v s h => ?stores,
    fun p v hp => by simp [storesSeed_seed_iff, hp], fun p v hp => storesSeed_seed_iff.mpr (.inr hp)⟩
  case stores =>
    obtain ⟨w, hw⟩ := exists_seedRule_of_storesSeed h
    rw [hw]
    exact ⟨rfl, rfl⟩

/-- Settles O13: both edges lead to the reset state with the same inputs to come. -/
theorem resetForgetsTheEarlierGenerator : Obligations.ResetForgetsTheEarlierGenerator := by
  intro s s' e e' rest hs hs' he he'
  have h := step_of_rst hs he
  exact ⟨h.trans (step_of_rst hs' he').symm, _, h, rfl, rfl⟩

end Sys2Proof.Machine

/-! SUPPORT. The proof of the family 'other': a seeded block answers every command but `SEED 0` with `OK`, so a
run that seeds first and never seeds with 0 is safe (93_implementation_defined U7). -/

namespace Sys2Proof.Machine

/-- A seeded block answers `OK` to every command but `SEED 0`: each error status has a condition of its own
that is excluded here (60_exceptions R145). -/
theorem commandRule_status_of_seeded {p : Params} {i : Instr} {s : State} (hV : s.VALID = true)
    (hi : i ≠ .seed 0) : (commandRule p i s).RSP.status = .ok := by
  cases h : (commandRule p i s).RSP.status with
  | ok => rfl
  | invalidSeed =>
    obtain ⟨hzero, _⟩ := (commandRule_status_invalidSeed_iff p i s).mp h
    exact absurd hzero hi
  | notSeeded =>
    obtain ⟨_, hunseeded⟩ := (commandRule_status_notSeeded_iff p i s).mp h
    cases hV.symm.trans hunseeded

/-- The answers to a list are all `OK` when the first command's is and all later ones are. -/
theorem allOk_runCommands_cons {p : Params} {i : Instr} {cs : List Instr} {s : State} :
    allOk (runCommands p (i :: cs) s).1 = true ↔
      (commandRule p i s).RSP.status = .ok ∧ allOk (runCommands p cs (commandRule p i s)).1 = true := by
  simp [allOk, runCommands, State.response]

/-- A seeded block answers `OK` to every command of a list without `SEED 0`: it stays seeded throughout. -/
theorem allOk_runCommands_of_seeded (p : Params) (cs : List Instr) {s : State} (hV : s.VALID = true)
    (hcs : ∀ i ∈ cs, i ≠ .seed 0) : allOk (runCommands p cs s).1 = true := by
  induction cs generalizing s with
  | nil => rfl
  | cons i cs ih =>
    obtain ⟨hi, hcs⟩ := List.forall_mem_cons.mp hcs
    have hV' : (commandRule p i s).VALID = true := by rw [commandRule_VALID, hV, Bool.true_or]
    exact allOk_runCommands_cons.mpr ⟨commandRule_status_of_seeded hV hi, ih hV' hcs⟩

/-- Settles O55: the first `SEED` answers `OK` and seeds the block, and a seeded block answers `OK` to the
rest. -/
theorem seededRunsAreSafe : Obligations.SeededRunsAreSafe := by
  intro p v cs hv hcs
  have hseed : commandRule p (.seed v) State.reset = (State.reset.store v).respond .ok 0 :=
    seedRule_of_ne_zero p hv State.reset
  rw [SafeRun, runFromReset, allOk_runCommands_cons, hseed]
  exact ⟨rfl, allOk_runCommands_of_seeded p cs rfl hcs⟩

end Sys2Proof.Machine
